-- ==== Sys2Proof/Word.lean ====
section
/-! DEFINITION. The byte of the service link and of the fixture records (10 section 10.7). -/

namespace Sys2Proof

/-- One byte on the service link or in a fixture record. -/
abbrev Byte := BitVec 8

end Sys2Proof
end

