-- ==== Sys2Proof/Config.lean ====
section
/-! DEFINITION. What the part fixes once and for all: sizes, limits and codes the spec gives as
numbers. The spec leaves no value open after which the part goes on, so no constant here is opaque
(INVENTORY.md, "What the manual leaves open"). -/

namespace Sys2Proof.Config

/-- Zones of a bay (R68, R130). -/
def zones : Nat := 24
/-- Heads the part can address (R68). -/
def heads : Nat := 16
/-- Ticks without a TEMP record after which the temperature is stale (R155). -/
def staleLimit : Nat := 500
/-- Largest value of the revisit elapsed time (R101). -/
def revisitElapsedMax : Nat := 600000
/-- Frames the event queue holds (R170). -/
def eventQueueSize : Nat := 16
/-- Frames the receive queue holds (R176). -/
def receiveQueueSize : Nat := 4
/-- QUEUE_FULL answers the reply list holds (R176, R178). -/
def queueFullAnswers : Nat := 4
/-- Steps the plan store holds (R132). -/
def planSteps : Nat := 128
/-- Steps of a probe (R144). -/
def probeSteps : Nat := 8
/-- Plans the resume stack holds (R140). -/
def stackDepth : Nat := 4
/-- Records the reference log holds (R99). -/
def logSize : Nat := 64
/-- Consecutive failed visits that end a sweep (R100). -/
def failedVisitLimit : Nat := 3
/-- Servo losses that end a sweep (R147). -/
def retryLimit : Nat := 4
/-- Where a sweep's sequence numbers are used up (R143). -/
def sequenceEnd : Nat := 65536
/-- Revolutions after which an outstanding write times out (R109). -/
def writeRevolutions : Nat := 8
/-- Revolutions after which an open capture ends (R110). -/
def captureRevolutions : Nat := 4
/-- Bits that load the checker's register (R111). -/
def huntBits : Nat := 17
/-- Correct predictions that lock the checker (R111). -/
def lockRun : Nat := 32
/-- Compared bits of one window (R113). -/
def windowBits : Nat := 128
/-- Mismatches of one window at which lock is lost (R113). -/
def windowMismatchLimit : Nat := 12
/-- Bits of a pattern block (R107). -/
def blockBits : Nat := 256
/-- Least and greatest absolute position (R3). -/
def positionMin : Int := -2048
/-- See `positionMin`. -/
def positionMax : Int := 2147481600
/-- Greatest track number. -/
def trackMax : Nat := 524287
/-- Start byte of a frame (R175). -/
def startByte : Byte := 0xC3
/-- Kind byte of an event frame (section 10.7.1). -/
def eventKind : Byte := 0xE0
/-- Least and greatest length a frame may state (R175). -/
def lengthMin : Nat := 2
/-- See `lengthMin`. -/
def lengthMax : Nat := 1022

end Sys2Proof.Config
end

