-- ==== Sys2Proof/Syntax.lean ====
section
/-! DEFINITION. The commands of the block: one constructor of `Instr` for each row of
spec/opcode_table.json, with the records and numbers it carries. -/

namespace Sys2Proof

/-- A bay of the bench, 0 to 3. -/
inductive BayIx where
  | bay0 | bay1 | bay2 | bay3
deriving DecidableEq, Repr

/-- What a wedge record carries when the front end found servo sync (section 10.7.5): wedge index,
the four bursts, and the track number when the track code was decoded. -/
structure WedgeSync where
  index : Nat
  a : Nat
  b : Nat
  c : Nat
  d : Nat
  track : Option Nat
deriving DecidableEq, Repr

/-- A WEDGE record (R21). -/
structure Wedge where
  head : Nat
  sync : Option WedgeSync
deriving DecidableEq, Repr

/-- The inbound fixture records (R21). -/
inductive InRecord where
  | wedge (w : Wedge)
  /-- The bits of the block, first bit first. -/
  | readback (bits : List Bool)
  | temp (value : Int)
  | fault (active : Bool)
  | writeDone
deriving DecidableEq, Repr

/-- The three kinds of timer a tick of the time base reaches (R153). -/
inductive TimerKind where
  | acquisition | staleness | revisit
deriving DecidableEq, Repr

/-- One timer of the part. -/
structure TimerId where
  bay : BayIx
  kind : TimerKind
deriving DecidableEq, Repr

/-- The commands. A request carries its tag and the bytes of its body as section 10.7.2 lays them
out; a fixture record carries its bay and its fields, except MALFORMED_RECORD, which carries the bytes
that arrived; the row of an event of a bay carries that bay. -/
inductive Instr where
  /-- Release of RSTN with BAUD_SEL high or low (R181). -/
  | powerOn (baudSelHigh : Bool)
  /-- A tick of the time base, reaching the timers in the order given, then the rest (R153). -/
  | timeBaseTick (order : List TimerId)
  | acquireTimeout (bay : BayIx)
  | sensorStale (bay : BayIx)
  | wedge (bay : BayIx) (record : Wedge)
  /-- The bits of a READBACK block, first bit first (R110). -/
  | readback (bay : BayIx) (bits : List Bool)
  | writeDone (bay : BayIx)
  /-- A temperature in quarter degrees (R154). -/
  | temp (bay : BayIx) (value : Int)
  | fault (bay : BayIx) (active : Bool)
  | malformedRecord (bay : BayIx) (bytes : List Byte)
  | demodTake
  | demodComplete
  | servoLoss (bay : BayIx)
  | switchWaitEnd (bay : BayIx)
  | settleTimeout (bay : BayIx)
  | windowTimeout (bay : BayIx)
  | returnLimit (bay : BayIx)
  | loopSwitchLimit (bay : BayIx)
  | writeTimeout (bay : BayIx)
  | captureTimeout (bay : BayIx)
  /-- Bytes that arrive on SL_RX, in order (R175). -/
  | receiveFrame (bytes : List Byte)
  | frameSent
  | unknownKind (kind tag : Byte) (body : List Byte)
  | ident (tag : Byte) (body : List Byte)
  | partReset (tag : Byte) (body : List Byte)
  | partResetEffect
  | bayProfile (tag : Byte) (body : List Byte)
  | bayPowerOn (tag : Byte) (body : List Byte)
  | bayPowerOff (tag : Byte) (body : List Byte)
  | move (tag : Byte) (body : List Byte)
  | stop (tag : Byte) (body : List Byte)
  | clear (tag : Byte) (body : List Byte)
  | mapRead (tag : Byte) (body : List Byte)
  | mapAccept (tag : Byte) (body : List Byte)
  | mapClearFull (tag : Byte) (body : List Byte)
  | mapClearMarksOnly (tag : Byte) (body : List Byte)
  | refLog (tag : Byte) (body : List Byte)
  | countersSnapshot (tag : Byte) (body : List Byte)
  | countersRead (tag : Byte) (body : List Byte)
  | countersReset (tag : Byte) (body : List Byte)
  | selfCheck (tag : Byte) (body : List Byte)
  | zoneSetDefine (tag : Byte) (body : List Byte)
  | zoneSetUndefine (tag : Byte) (body : List Byte)
  | planLoadReplace (tag : Byte) (body : List Byte)
  | planLoadAppend (tag : Byte) (body : List Byte)
  | probe (tag : Byte) (body : List Byte)
  | sweepStart (tag : Byte) (body : List Byte)
  | sweepHold (tag : Byte) (body : List Byte)
  | sweepResume (tag : Byte) (body : List Byte)
  | sweepAbort (tag : Byte) (body : List Byte)
  | status (tag : Byte) (body : List Byte)
  | eventRoute (tag : Byte) (body : List Byte)
  /-- A start byte and the two length bytes after it, least significant first (R175). -/
  | impossibleLength (lo hi : Byte)
  | byteFramingError
deriving DecidableEq, Repr

end Sys2Proof
end

