-- ==== Sys2Proof/WellFormed.lean ====
section
/-! DEFINITION. When a command's operands lie in the ranges the spec gives them: a fixture record in
range (R22), a whole frame's bytes, a request body that can stand in a frame (R175), a body whose
length fits its row (section 10.7.2). -/

namespace Sys2Proof

/-- The ranges of R22 for a wedge record. -/
def Wedge.wellFormed (w : Wedge) : Bool :=
  w.head ≤ 15 &&
    match w.sync with
    | none => true
    | some y =>
      y.index ≤ 255 && y.a ≤ 4095 && y.b ≤ 4095 && y.c ≤ 4095 && y.d ≤ 4095 &&
        match y.track with
        | none => true
        | some t => t ≤ Config.trackMax

/-- The ranges of R22 for any inbound record. -/
def InRecord.wellFormed : InRecord → Bool
  | .wedge w => w.wellFormed
  | .readback bits => 1 ≤ bits.length && bits.length ≤ 256
  | .temp v => -160 ≤ v && v ≤ 600
  | .fault _ => true
  | .writeDone => true

/-- A body that fits a frame (R175: the length counts kind and tag as well). -/
def bodyFits (body : List Byte) : Bool := body.length + 2 ≤ Config.lengthMax

/-- The request kinds of section 10.7.1. -/
def requestKinds : List Byte :=
  [0x01, 0x02, 0x03, 0x10, 0x11, 0x12, 0x13, 0x20, 0x21, 0x22, 0x28, 0x30, 0x31, 0x40, 0x41, 0x42,
   0x43, 0x44, 0x45, 0x46, 0x50, 0x51]

/-- A body of `n` bytes. -/
def bodyOf (n : Nat) (body : List Byte) : Bool := body.length == n

/-- A body whose count byte at place `at_` agrees with its length, for entries of `size` bytes. -/
def bodyCounted (at_ size : Nat) (body : List Byte) : Bool :=
  bodyFits body &&
    match body[at_]? with
    | none => false
    | some c => body.length == at_ + 1 + size * c.toNat

/-- The byte at place `at_` is `v`. -/
def bodyByte (at_ : Nat) (v : Byte) (body : List Byte) : Bool := body[at_]? == some v

/-- The twelve timers, once each, in the order a tick with no stated order reaches them. -/
def allTimers : List TimerId :=
  [⟨.bay0, .acquisition⟩, ⟨.bay0, .staleness⟩, ⟨.bay0, .revisit⟩,
   ⟨.bay1, .acquisition⟩, ⟨.bay1, .staleness⟩, ⟨.bay1, .revisit⟩,
   ⟨.bay2, .acquisition⟩, ⟨.bay2, .staleness⟩, ⟨.bay2, .revisit⟩,
   ⟨.bay3, .acquisition⟩, ⟨.bay3, .staleness⟩, ⟨.bay3, .revisit⟩]

/-- Whether the operands of a command lie in the ranges the spec gives its row. A command that is not
well formed has its effect all the same: R22 and R177 say what becomes of it. -/
def Instr.wellFormed : Instr → Bool
  | .powerOn _ => true
  | .timeBaseTick order => order.dedup == order
  | .acquireTimeout _ => true
  | .sensorStale _ => true
  | .wedge _ w => w.wellFormed
  | .readback _ bits => (InRecord.readback bits).wellFormed
  | .writeDone _ => true
  | .temp _ v => (InRecord.temp v).wellFormed
  | .fault _ _ => true
  | .malformedRecord _ _ => true
  | .demodTake => true
  | .demodComplete => true
  | .servoLoss _ => true
  | .switchWaitEnd _ => true
  | .settleTimeout _ => true
  | .windowTimeout _ => true
  | .returnLimit _ => true
  | .loopSwitchLimit _ => true
  | .writeTimeout _ => true
  | .captureTimeout _ => true
  | .receiveFrame bytes => bytes.length ≤ Config.lengthMax + 5
  | .frameSent => true
  | .unknownKind kind _ body => !requestKinds.contains kind && bodyFits body
  | .ident _ body => bodyOf 0 body
  | .partReset _ body => bodyOf 0 body
  | .partResetEffect => true
  | .bayProfile _ body => bodyCounted 1 5 body
  | .bayPowerOn _ body => bodyOf 2 body && bodyByte 1 1 body
  | .bayPowerOff _ body => bodyOf 2 body && bodyByte 1 0 body
  | .move _ body => bodyOf 8 body
  | .stop _ body => bodyOf 1 body
  | .clear _ body => bodyOf 1 body
  | .mapRead _ body => bodyOf 4 body
  | .mapAccept _ body => bodyOf 5 body
  | .mapClearFull _ body => bodyOf 6 body && bodyByte 5 0 body
  | .mapClearMarksOnly _ body => bodyOf 6 body && bodyByte 5 1 body
  | .refLog _ body => bodyOf 1 body
  | .countersSnapshot _ body => bodyOf 2 body && bodyByte 1 0 body
  | .countersRead _ body => bodyOf 2 body && bodyByte 1 1 body
  | .countersReset _ body => bodyOf 2 body && bodyByte 1 2 body
  | .selfCheck _ body => bodyOf 1 body
  | .zoneSetDefine _ body => bodyOf 11 body && bodyByte 2 0 body
  | .zoneSetUndefine _ body => bodyOf 3 body && bodyByte 2 1 body
  | .planLoadReplace _ body => bodyCounted 2 3 body && bodyByte 1 0 body
  | .planLoadAppend _ body => bodyCounted 2 3 body && bodyByte 1 1 body
  | .probe _ body => bodyCounted 2 3 body
  | .sweepStart _ body => bodyOf 1 body
  | .sweepHold _ body => bodyOf 1 body
  | .sweepResume _ body => bodyOf 1 body
  | .sweepAbort _ body => bodyOf 1 body
  | .status _ body => bodyOf 4 body
  | .eventRoute _ body => bodyCounted 1 2 body
  | .impossibleLength lo hi =>
      !(Config.lengthMin ≤ lo.toNat + 256 * hi.toNat && lo.toNat + 256 * hi.toNat ≤ Config.lengthMax)
  | .byteFramingError => true

end Sys2Proof
end

