-- ==== Sys2Proof/Decode.lean ====
section
/-! DEFINITION. Bytes to meaning and back: byte order (R184), inbound fixture records (section
10.7.5, R22), frames and their check (R175), and the bodies of requests (section 10.7.2). The opcode
table gives no row any bits, so a table word spells no command. -/

namespace Sys2Proof

/-- No row of spec/opcode_table.json has bits, so no word spells a command. -/
def decodeTableWord (_nbits _w : Nat) : Option Instr := none

/-! ### Byte order (R184) -/

/-- The number that bytes give, least significant byte first. -/
def leNat : List Byte → Nat
  | [] => 0
  | b :: bs => b.toNat + 256 * leNat bs

/-- The low `size` bytes of a number, least significant first; two's complement when it is negative. -/
def leBytes : Nat → Int → List Byte
  | 0, _ => []
  | n + 1, v => BitVec.ofInt 8 v :: leBytes n (v / 256)

/-- A 16-bit number read as two's complement. -/
def signed16 (n : Nat) : Int := if n < 32768 then n else (n : Int) - 65536

/-- A 32-bit number read as two's complement. -/
def signed32 (n : Nat) : Int := if n < 2147483648 then n else (n : Int) - 4294967296

/-- The bits of a byte, most significant first. -/
def byteBits (b : Byte) : List Bool :=
  [b.getLsbD 7, b.getLsbD 6, b.getLsbD 5, b.getLsbD 4, b.getLsbD 3, b.getLsbD 2, b.getLsbD 1,
   b.getLsbD 0]

/-- The number up to eight bits give, the first the most significant of the byte, absent bits 0. -/
def bitsByte (bits : List Bool) : Byte :=
  let bit (k : Nat) : Nat := if bits.getD k false then 2 ^ (7 - k) else 0
  BitVec.ofNat 8 (bit 0 + bit 1 + bit 2 + bit 3 + bit 4 + bit 5 + bit 6 + bit 7)

/-- The bytes that carry bits, first bit in the most significant bit of the first byte; `n` bytes. -/
def packBits : Nat → List Bool → List Byte
  | 0, _ => []
  | n + 1, bits => bitsByte (bits.take 8) :: packBits n (bits.drop 8)

/-! ### Inbound fixture records -/

/-- The record that the bytes after a WEDGE type lay out, ranges not yet looked at. -/
def parseWedge : List Byte → Option Wedge
  | [h, 0x00] => some ⟨h.toNat, none⟩
  | [h, 0x01, i, a0, a1, b0, b1, c0, c1, d0, d1] =>
      some ⟨h.toNat, some ⟨i.toNat, leNat [a0, a1], leNat [b0, b1], leNat [c0, c1], leNat [d0, d1], none⟩⟩
  | [h, 0x03, i, a0, a1, b0, b1, c0, c1, d0, d1, t0, t1, t2] =>
      some ⟨h.toNat, some ⟨i.toNat, leNat [a0, a1], leNat [b0, b1], leNat [c0, c1], leNat [d0, d1],
        some (leNat [t0, t1, t2])⟩⟩
  | _ => none

/-- The record that bytes lay out by their type and length, ranges not yet looked at. -/
def parseLayout : List Byte → Option InRecord
  | [] => none
  | t :: rest =>
    if t = 0x01 then (parseWedge rest).map .wedge
    else if t = 0x02 then
      match rest with
      | c0 :: c1 :: bytes =>
        if bytes.length = (leNat [c0, c1] + 7) / 8 then
          some (.readback ((bytes.flatMap byteBits).take (leNat [c0, c1])))
        else none
      | _ => none
    else if t = 0x03 then
      match rest with
      | [a, b] => some (.temp (signed16 (leNat [a, b])))
      | _ => none
    else if t = 0x04 then
      match rest with
      | [l] => if l = 0 then some (.fault false) else if l = 1 then some (.fault true) else none
      | _ => none
    else if t = 0x05 then
      match rest with
      | [] => some .writeDone
      | _ => none
    else none

/-- The well-formed inbound record that bytes are, or none when they are malformed (R22). -/
def parseRecord (bytes : List Byte) : Option InRecord :=
  match parseLayout bytes with
  | some r => if r.wellFormed then some r else none
  | none => none

/-- The bytes of an inbound record (section 10.7.5). -/
def InRecord.bytes : InRecord → List Byte
  | .wedge ⟨h, none⟩ => [0x01, BitVec.ofNat 8 h, 0x00]
  | .wedge ⟨h, some ⟨i, a, b, c, d, none⟩⟩ =>
      [0x01, BitVec.ofNat 8 h, 0x01, BitVec.ofNat 8 i] ++
        (leBytes 2 a ++ leBytes 2 b ++ leBytes 2 c ++ leBytes 2 d)
  | .wedge ⟨h, some ⟨i, a, b, c, d, some t⟩⟩ =>
      [0x01, BitVec.ofNat 8 h, 0x03, BitVec.ofNat 8 i] ++
        (leBytes 2 a ++ leBytes 2 b ++ leBytes 2 c ++ leBytes 2 d ++ leBytes 3 t)
  | .readback bits => 0x02 :: (leBytes 2 bits.length ++ packBits ((bits.length + 7) / 8) bits)
  | .temp v => 0x03 :: leBytes 2 v
  | .fault active => [0x04, if active then 1 else 0]
  | .writeDone => [0x05]

/-! ### Frames -/

/-- One byte's step of the Fletcher-16 sums (R175). -/
def fletcherStep (sums : Nat × Nat) (b : Byte) : Nat × Nat :=
  let first := (sums.1 + b.toNat) % 255
  (first, (sums.2 + first) % 255)

/-- The Fletcher-16 sums of bytes (R175). -/
def fletcher (bytes : List Byte) : Nat × Nat := bytes.foldl fletcherStep (0, 0)

/-- The bytes the frame check covers: length, kind, tag and body (R175). -/
def frameCovered (kind tag : Byte) (body : List Byte) : List Byte :=
  leBytes 2 (body.length + 2) ++ (kind :: tag :: body)

/-- A whole frame (section 10.7.1). -/
def frameBytes (kind tag : Byte) (body : List Byte) : List Byte :=
  let covered := frameCovered kind tag body
  let sums := fletcher covered
  Config.startByte :: (covered ++ [BitVec.ofNat 8 sums.1, BitVec.ofNat 8 sums.2])

/-! ### Request bodies

Each reader answers none when the body's length does not fit the layout (R177 check 2), and otherwise
the fields as raw numbers. -/

/-- A body that is the bay byte alone. -/
def readBay : List Byte → Option Byte
  | [b] => some b
  | _ => none

/-- Bay and option: BAY_POWER and COUNTERS. -/
def readBayOption : List Byte → Option (Byte × Nat)
  | [b, o] => some (b, o.toNat)
  | _ => none

/-- MOVE: bay, head, track, offset. -/
def readMove : List Byte → Option (Byte × Nat × Nat × Int)
  | [b, h, t0, t1, t2, t3, o0, o1] =>
      some (b, h.toNat, leNat [t0, t1, t2, t3], signed16 (leNat [o0, o1]))
  | _ => none

/-- MAP_READ: bay, head, first zone, last zone. -/
def readMapRead : List Byte → Option (Byte × Nat × Nat × Nat)
  | [b, h, z0, z1] => some (b, h.toNat, z0.toNat, z1.toNat)
  | _ => none

/-- A rectangle of the map: first and last head, first and last zone. -/
structure MapRange where
  head0 : Nat
  head1 : Nat
  zone0 : Nat
  zone1 : Nat
deriving DecidableEq, Repr

/-- MAP_ACCEPT: bay and rectangle. -/
def readMapAccept : List Byte → Option (Byte × MapRange)
  | [b, h0, h1, z0, z1] => some (b, ⟨h0.toNat, h1.toNat, z0.toNat, z1.toNat⟩)
  | _ => none

/-- MAP_CLEAR: bay, rectangle and option. -/
def readMapClear : List Byte → Option (Byte × MapRange × Nat)
  | [b, h0, h1, z0, z1, o] => some (b, ⟨h0.toNat, h1.toNat, z0.toNat, z1.toNat⟩, o.toNat)
  | _ => none

/-- ZONE_SET's option with the fields that define carries. -/
inductive ZoneOption where
  | define (track scanHalf scanStep : Nat)
  | undefine
  | other
deriving DecidableEq, Repr

/-- ZONE_SET: bay, zone, option, and with define track, scan_half and scan_step. Section 10.7.2 leaves
out the place of the zone byte; it stands after the bay byte (DESIGN CHOICE, log entry 10). -/
def readZoneSet : List Byte → Option (Byte × Nat × ZoneOption)
  | [b, z, o] =>
      if o = 0 then none else some (b, z.toNat, if o = 1 then .undefine else .other)
  | [b, z, o, t0, t1, t2, t3, h0, h1, s0, s1] =>
      if o = 0 then
        some (b, z.toNat, .define (leNat [t0, t1, t2, t3]) (leNat [h0, h1]) (leNat [s0, s1]))
      else none
  | _ => none

/-- A step record's three bytes as raw numbers: kind, head and zone. -/
structure RawStep where
  kind : Nat
  head : Nat
  zone : Nat
deriving DecidableEq, Repr

/-- Three bytes for each step record; none when bytes are left over. -/
def readSteps : List Byte → Option (List RawStep)
  | [] => some []
  | k :: h :: z :: rest =>
    match readSteps rest with
    | some l => some (⟨k.toNat, h.toNat, z.toNat⟩ :: l)
    | none => none
  | _ => none

/-- PLAN_LOAD and PROBE: bay, a byte (option or probe id), count, step records. -/
def readStepList : List Byte → Option (Byte × Nat × List RawStep)
  | b :: o :: c :: rest =>
    match readSteps rest with
    | some l => if l.length = c.toNat then some (b, o.toNat, l) else none
    | none => none
  | _ => none

/-- Five bytes for each pair of parameter id and signed value. -/
def readParams : List Byte → Option (List (Nat × Int))
  | [] => some []
  | i :: v0 :: v1 :: v2 :: v3 :: rest =>
    match readParams rest with
    | some l => some ((i.toNat, signed32 (leNat [v0, v1, v2, v3])) :: l)
    | none => none
  | _ => none

/-- BAY_PROFILE: bay, count, pairs. -/
def readProfile : List Byte → Option (Byte × List (Nat × Int))
  | b :: c :: rest =>
    match readParams rest with
    | some l => if l.length = c.toNat then some (b, l) else none
    | none => none
  | _ => none

/-- Two bytes for each pair of event kind and disposition. -/
def readRoutes : List Byte → Option (List (Nat × Nat))
  | [] => some []
  | k :: d :: rest =>
    match readRoutes rest with
    | some l => some ((k.toNat, d.toNat) :: l)
    | none => none
  | _ => none

/-- EVENT_ROUTE: bay, count, pairs. -/
def readRoute : List Byte → Option (Byte × List (Nat × Nat))
  | b :: c :: rest =>
    match readRoutes rest with
    | some l => if l.length = c.toNat then some (b, l) else none
    | none => none
  | _ => none

/-- STATUS: bay and the 24-bit mask. -/
def readStatus : List Byte → Option (Byte × Nat)
  | [b, m0, m1, m2] => some (b, leNat [m0, m1, m2])
  | _ => none

/-! ### Bodies of requests, written -/

/-- The bay byte. -/
def BayIx.byte : BayIx → Byte
  | .bay0 => 0
  | .bay1 => 1
  | .bay2 => 2
  | .bay3 => 3

/-- MOVE's body. -/
def moveBody (b : BayIx) (head track : Nat) (offset : Int) : List Byte :=
  b.byte :: BitVec.ofNat 8 head :: (leBytes 4 track ++ leBytes 2 offset)

/-- A step record's bytes. -/
def RawStep.bytes (r : RawStep) : List Byte :=
  [BitVec.ofNat 8 r.kind, BitVec.ofNat 8 r.head, BitVec.ofNat 8 r.zone]

/-- PLAN_LOAD's body (`o` the option) and PROBE's (`o` the probe id). -/
def stepListBody (b : BayIx) (o : Nat) (steps : List RawStep) : List Byte :=
  b.byte :: BitVec.ofNat 8 o :: BitVec.ofNat 8 steps.length :: steps.flatMap RawStep.bytes

/-- BAY_PROFILE's body. -/
def profileBody (b : BayIx) (pairs : List (Nat × Int)) : List Byte :=
  b.byte :: BitVec.ofNat 8 pairs.length ::
    pairs.flatMap fun p => BitVec.ofNat 8 p.1 :: leBytes 4 p.2

/-- EVENT_ROUTE's body. -/
def routeBody (b : BayIx) (pairs : List (Nat × Nat)) : List Byte :=
  b.byte :: BitVec.ofNat 8 pairs.length ::
    pairs.flatMap fun p => [BitVec.ofNat 8 p.1, BitVec.ofNat 8 p.2]

/-- The body of a MAP_ACCEPT, and of a MAP_CLEAR before its option. -/
def rangeBody (b : BayIx) (r : MapRange) : List Byte :=
  [b.byte, BitVec.ofNat 8 r.head0, BitVec.ofNat 8 r.head1, BitVec.ofNat 8 r.zone0, BitVec.ofNat 8 r.zone1]

/-- ZONE_SET's body with define. -/
def zoneDefineBody (b : BayIx) (zone track scanHalf scanStep : Nat) : List Byte :=
  b.byte :: BitVec.ofNat 8 zone :: 0 :: (leBytes 4 track ++ leBytes 2 scanHalf ++ leBytes 2 scanStep)

/-- STATUS's body. -/
def statusBody (b : BayIx) (mask : Nat) : List Byte := b.byte :: leBytes 3 mask

end Sys2Proof
end

