-- ==== Sys2Proof/Machine/State.lean ====
section
/-! DEFINITION. The state of the part: everything the spec's rules name, block by block, as plain data,
and its value at the release of RSTN (R181). -/

namespace Sys2Proof.Machine

/-! ### One value for each bay -/

/-- Four values, one for each bay. -/
structure PerBay (α : Type) where
  b0 : α
  b1 : α
  b2 : α
  b3 : α
deriving DecidableEq, Repr

/-- The value of one bay. -/
def PerBay.get {α : Type} (p : PerBay α) : BayIx → α
  | .bay0 => p.b0
  | .bay1 => p.b1
  | .bay2 => p.b2
  | .bay3 => p.b3

/-- The four values with one of them replaced. -/
def PerBay.set {α : Type} (p : PerBay α) (b : BayIx) (v : α) : PerBay α :=
  match b with
  | .bay0 => { p with b0 := v }
  | .bay1 => { p with b1 := v }
  | .bay2 => { p with b2 := v }
  | .bay3 => { p with b3 := v }

/-- The same value for every bay. -/
def PerBay.all {α : Type} (v : α) : PerBay α := ⟨v, v, v, v⟩

/-- A table by number, in canonical form: keys strictly rising, no entry equal to what an unlisted key
reads as. -/
abbrev Table (α : Type) := List (Nat × α)

/-! ### Names the spec uses -/

/-- Bay states, in the order of section 3.2. -/
inductive BayState where
  | offline | idle | acquire | follow | sweep | held | fault
deriving DecidableEq, Repr

/-- The state a bay enters when acquisition completes (R32). -/
inductive Intent where
  | follow | sweep
deriving DecidableEq, Repr

/-- Quadrants of the burst pattern, index 0 to 3 (R2). -/
inductive Quadrant where
  | one | two | three | four
deriving DecidableEq, Repr

/-- Sample classes, in the order of R4. -/
inductive SampleClass where
  | noSync | foreign | weak | unplaced | position
deriving DecidableEq, Repr

/-- A delivered sample (R5). `mark` is the revolution mark (R6). -/
structure Sample where
  cls : SampleClass
  head : Nat
  mark : Bool
  burstSum : Option Nat
  quadrant : Option Quadrant
  position : Option Int
deriving DecidableEq, Repr

/-- loss_mode (R36). -/
inductive LossMode where
  | normal | extended
deriving DecidableEq, Repr

/-- loss_output (R39). -/
inductive LossOutput where
  | holdLast | zero
deriving DecidableEq, Repr

/-- pattern_loop (R115). -/
inductive PatternLoop where
  | off | internal
deriving DecidableEq, Repr

/-- fault_line_action (R159). -/
inductive FaultLineAction where
  | none | hold | cutoff
deriving DecidableEq, Repr

/-- rest_output (R64). -/
inductive RestOutput where
  | holdLast | zero | park
deriving DecidableEq, Repr

/-- The causes of R70, in its order, 1 to 15. -/
inductive Cause where
  | settleTimeout | noSamples | noServo | spread | lowAmplitude | offsetRange | driftExcess
  | noClosingRef | noZone | noHead | writeTimeout | noReadback | noPass | narrowWindow | edgeRun
deriving DecidableEq, Repr

/-- Statuses of a part of a Head Map entry (R69, R74). ABSENT is the absence of the part. A jog part
is never PROVISIONAL. -/
inductive PartStatus where
  | provisional | good | suspect | failed
deriving DecidableEq, Repr

/-- Outcomes of a sweep, in the order of R149. -/
inductive SweepOutcome where
  | complete | aborted | refFailed | lostServo | faulted | poweredOff
deriving DecidableEq, Repr

/-- Kinds of step (R132). -/
inductive StepKind where
  | offset | jog | ref
deriving DecidableEq, Repr

/-- The last step outcome (R134). -/
inductive StepOutcome where
  | written | skipped | discarded
deriving DecidableEq, Repr

/-- Whether the base plan stands (R134). -/
inductive BasePlan where
  | standing | finished | lost
deriving DecidableEq, Repr

/-- The visits of R98, R100 and R142. -/
inductive VisitKind where
  | opening | onTrigger | closing | planned
deriving DecidableEq, Repr

/-- Checker states (R106). -/
inductive CheckerState where
  | hunt | check | locked
deriving DecidableEq, Repr

/-- Dispositions of an event kind (R168). -/
inductive Disposition where
  | latch | notify | hold
deriving DecidableEq, Repr

/-- Statuses of an answer (R177). -/
inductive Status where
  | ok | adjusted | badLength | unknownKind | badBay | badArg | busy | full | queueFull
deriving DecidableEq, Repr

/-- The eighteen event kinds, numbered 0 to 17 in this order (section 9.1). -/
inductive EventKind where
  | acquired | servoLoss | acquireTimeout | positionSlip | quadJump | queueWarn | queueOverrun
  | stepFailed | driftExcess | resumeLost | sweepDone | tempHold | tempClear | tempCutoff
  | sensorStale | faultLine | patternLost | countSaturated
deriving DecidableEq, Repr

/-- The phases of an offset measurement or visit (section 5.3) and of a JOG step (section 6.4).
`retHead` is RETURN. `interrupted` is work that waits for reacquisition after a servo loss (R147). -/
inductive Phase where
  | seek | settle | refAvg | switch | headAvg | retHead
  | loopSwitchOut | writePass | move (k : Nat) | settleAt (k : Nat) | read (k : Nat)
  | loopSwitchBack
  | interrupted
deriving DecidableEq, Repr

/-! ### Events -/

/-- A step record (R132). -/
structure StepRec where
  kind : StepKind
  head : Nat
  zone : Nat
deriving DecidableEq, Repr

/-- What a suspended or running plan is (R134, R140). -/
inductive Plan where
  | base (next : Nat)
  | probe (id : Nat) (steps : List StepRec)
deriving DecidableEq, Repr

/-- The details of an event, in the order of section 9.1. -/
inductive Details where
  | acquired (head : Nat) (position : Int) (intent : Intent) (elapsed : Nat)
  | servoLoss (head : Nat) (left : BayState) (threshold : Nat) (cls : SampleClass)
  | acquireTimeout (head : Nat) (intent : Intent) (run : Nat) (resolved : Bool)
  | positionSlip (head : Nat) (slip : Int) (seq : Nat)
  | quadJump (head : Nat) (before after : Quadrant) (count : Int)
  | queueWarn (occupancy depth : Nat)
  | queueOverrun (occupancy head : Nat) (index : Option Nat)
  | stepFailed (head zone : Nat) (kind : StepKind) (cause : Cause) (seq : Nat)
  | driftExcess (sa : Nat) (va : Int) (sb : Nat) (vb : Int) (drift : Int) (corrected suspect : Nat)
  | resumeLost (plan : Plan)
  | sweepDone (number : Nat) (outcome : SweepOutcome) (measured skipped lost suspect : Nat)
  | tempHold (temp holdTemp : Int)
  | tempClear (temp limit : Int)
  | tempCutoff (temp cutoffTemp : Int) (before : BayState)
  | sensorStale (temp : Option Int)
  | faultLine (action : FaultLineAction) (state : BayState)
  | patternLost (head zone k seq compared : Nat)
  | countSaturated (head checked : Nat)
deriving DecidableEq, Repr

/-- An event frame (R166). -/
structure EventFrame where
  bay : BayIx
  details : Details
deriving DecidableEq, Repr

/-! ### The service link -/

/-- A received request frame: kind, tag and body (section 10.7.1). -/
structure Frame where
  kind : Byte
  tag : Byte
  body : List Byte
deriving DecidableEq, Repr

/-- An answer: the kind and tag of the request it answers, its status, and the body after the status.
`taken` says that it answers a taken request; a QUEUE_FULL answer does not (R176). -/
structure Answer where
  request : Byte
  tag : Byte
  status : Status
  body : List Byte
  taken : Bool
deriving DecidableEq, Repr

/-- A frame the transmitter sends (R178). -/
inductive TxFrame where
  | answer (a : Answer)
  | event (e : EventFrame)
deriving DecidableEq, Repr

/-- The receiver (R175): hunting, or assembling with the bytes since the start byte, oldest first. -/
inductive Receiver where
  | hunting
  | assembling (bytes : List Byte)
deriving DecidableEq, Repr

/-- The service link (R174 to R180). -/
structure Link where
  /-- 921,600 bit/s when true, 460,800 bit/s when false (R174). -/
  fastLine : Bool
  receiver : Receiver
  rxQueue : List Frame
  resetPending : Bool
  replies : List Answer
  /-- The frame being sent, or none when the line is free (R178). -/
  line : Option TxFrame
deriving DecidableEq, Repr

/-- The event queue and its overflow flag (R170). -/
structure EventQueue where
  frames : List EventFrame
  overflow : Bool
deriving DecidableEq, Repr

/-- The shared demodulator (R7, R9). -/
structure Demod where
  busy : Option (BayIx × Wedge)
  lastServed : BayIx
deriving DecidableEq, Repr

/-- Outbound fixture records (R25). -/
inductive OutRecord where
  | head (head : Nat)
  | drive (command : Int)
  | write (index count : Nat) (bits : List Bool)
  | capture (blocks : Nat)
  | power (on : Bool)
deriving DecidableEq, Repr

/-! ### The blocks of one bay -/

/-- The profile, in the order of the ids of section 10.6. -/
structure Profile where
  headCount : Nat
  refHead : Nat
  driftHead : Nat
  refZone : Nat
  queueDepth : Nat
  lossMode : LossMode
  lossOutput : LossOutput
  acqCount : Nat
  acqTimeoutMs : Nat
  minSum : Nat
  currentLimit : Nat
  bias : Int
  kp : Nat
  kd : Nat
  slewPu : Nat
  onTrackWindow : Nat
  settleCount : Nat
  settleTimeout : Nat
  headSwitchWedges : Nat
  avgCount : Nat
  spreadLimit : Nat
  amplitudeFloor : Nat
  revisitCount : Nat
  revisitMs : Nat
  revisitDelta : Nat
  driftLimit : Nat
  writeBlocks : Nat
  readBlocks : Nat
  passLimit : Nat
  minWindow : Nat
  patternLoop : PatternLoop
  holdTemp : Int
  hyst : Nat
  cutoffTemp : Int
  faultLineAction : FaultLineAction
  restOutput : RestOutput
  parkCurrent : Int
deriving DecidableEq, Repr

/-- A slip capture (R10). -/
structure SlipCapture where
  slip : Int
  seq : Nat
deriving DecidableEq, Repr

/-- The position counter (R10). -/
structure Counter where
  cq : Int
  qp : Option Quadrant
  resolved : Bool
  latest : Option SlipCapture
  previous : Option SlipCapture
deriving DecidableEq, Repr

/-- The wedge queue, oldest first (R26). Its depth is queue_depth (R27). -/
structure Intake where
  queue : List Wedge
  warn : Bool
deriving DecidableEq, Repr

/-- Acquisition and the loss count (R32, R37). -/
structure Acq where
  intent : Intent
  run : Nat
  elapsed : Nat
  loss : Nat
deriving DecidableEq, Repr

/-- The bay controller (R43). -/
structure Ctrl where
  state : BayState
  loopHead : Nat
  selHead : Nat
  switchWait : Nat
  targetFinal : Option Int
  targetNow : Option Int
  prevErr : Option Int
  command : Int
  settle : Nat
  frozen : Bool
  /-- Disarmed, or armed with a count (R63). -/
  watch : Option Nat
deriving DecidableEq, Repr

/-- An offset part (R69). -/
structure OffsetPart where
  status : PartStatus
  cause : Option Cause
  finding : Option Cause
  raw : Option Int
  correction : Option Int
  sweep : Nat
  seq : Option Nat
  temp : Option Int
  amplitude : Option Nat
  spread : Option Nat
deriving DecidableEq, Repr

/-- A position result of a scan (R75). -/
inductive PosResult where
  | missing | noLock | count (mismatches : Nat)
deriving DecidableEq, Repr

/-- A scan profile with the geometry it used (R74). -/
structure ScanProfile where
  step : Nat
  first : Int
  results : List PosResult
deriving DecidableEq, Repr

/-- A jog part (R74). `jog` holds the jog and the read window. -/
structure JogPart where
  status : PartStatus
  cause : Option Cause
  jog : Option (Int × Nat)
  profile : Option ScanProfile
  sweep : Nat
  seq : Option Nat
  temp : Option Int
deriving DecidableEq, Repr

/-- A Head Map entry (R68). -/
structure Entry where
  accepted : Bool
  offset : Option OffsetPart
  jog : Option JogPart
deriving DecidableEq, Repr

/-- A defined zone (R130). -/
structure Zone where
  track : Nat
  scanHalf : Nat
  scanStep : Nat
deriving DecidableEq, Repr

/-- An open averaging window (R86). -/
structure Window where
  head : Nat
  size : Nat
  collected : Nat
  sum : Int
  extremes : Option (Int × Int)
  bursts : Nat
  delivered : Nat
  syncSeen : Bool
deriving DecidableEq, Repr

/-- A record of the reference log (R99). -/
structure RefRecord where
  seq : Nat
  value : Int
  temp : Option Int
deriving DecidableEq, Repr

/-- Averaging window, reference log, failed visits and revisit state (R86, R99, R100, R101). -/
structure Meas where
  window : Option Window
  log : List RefRecord
  failedVisits : Nat
  offsetCount : Nat
  elapsed : Nat
  dueCount : Bool
  dueTime : Bool
  dueTemp : Bool
deriving DecidableEq, Repr

/-- An open read capture (R106). -/
structure Capture where
  expected : Nat
  received : Nat
  revs : Nat
deriving DecidableEq, Repr

/-- Error counters (R106). -/
structure Counters where
  checked : Nat
  mismatches : Nat
  syncLosses : Nat
deriving DecidableEq, Repr

/-- The pattern generator and checker (R106). Bit 0 of a register is s1 or r1, the most recent. A
block is a list of 256 bits, first bit first. -/
structure Pattern where
  gen : BitVec 17
  selfCheck : Bool
  /-- None, or outstanding with a revolution count. -/
  write : Option Nat
  loopBuffer : List (List Bool)
  capture : Option Capture
  checker : CheckerState
  reg : BitVec 17
  sinceRestart : Nat
  run : Nat
  winCompared : Nat
  winMismatches : Nat
  posCompared : Nat
  posMismatches : Nat
  running : Counters
  holding : Counters
deriving DecidableEq, Repr

/-- What is in flight: a plan step or a visit (R134). -/
inductive Job where
  | offset (head zone : Nat)
  | jog (head zone : Nat)
  | visit (kind : VisitKind)
deriving DecidableEq, Repr

/-- What the averaging window of a head gave (R88). -/
structure WindowResult where
  mean : Int
  spread : Nat
  amplitude : Nat
deriving DecidableEq, Repr

/-- The work in flight with its phase and carried result (R134). -/
structure Work where
  job : Job
  phase : Phase
  seq : Option Nat
  temp : Option Int
  refResult : Option WindowResult
  headResult : Option WindowResult
  /-- The cause the measured head's window timed out with (R93). -/
  cause : Option Cause
  /-- The scan results gathered so far (R120). -/
  results : List PosResult
  /-- The jog part formed, carried through the return LOOP_SWITCH (R124). -/
  formed : Option JogPart
deriving DecidableEq, Repr

/-- The hold-cause set (R145). -/
structure Holds where
  host : Bool
  thermal : Bool
  stale : Bool
  faultLine : Bool
  event : Bool
deriving DecidableEq, Repr

/-- The sweep engine (R134). The stack's top comes first. -/
structure Sweep where
  active : Bool
  number : Nat
  seqNext : Nat
  plan : Option Plan
  basePlan : BasePlan
  work : Option Work
  phaseLimit : Nat
  probe : Option (Nat × List StepRec)
  stack : List Plan
  holds : Holds
  retry : Nat
  measured : Nat
  skipped : Nat
  lost : Nat
  lastStep : Option StepOutcome
  lastOutcome : Option SweepOutcome
deriving DecidableEq, Repr

/-- The thermal supervisor (R152). -/
structure Thermal where
  temp : Option Int
  staleTimer : Nat
  staleRunning : Bool
  stale : Bool
  hold : Bool
  cutoff : Bool
  line : Bool
  lastRef : Option Int
deriving DecidableEq, Repr

/-- A bay's latched flags, bit k for kind k, and its eighteen dispositions in kind order (R167,
R168). -/
structure EventUnit where
  latched : BitVec 18
  dispositions : List Disposition
deriving DecidableEq, Repr

/-- The blocks of one bay. -/
structure Bay where
  profile : Profile
  counter : Counter
  intake : Intake
  acq : Acq
  ctrl : Ctrl
  map : Table Entry
  zones : Table (Option Zone)
  store : List StepRec
  meas : Meas
  pattern : Pattern
  sweep : Sweep
  thermal : Thermal
  unit : EventUnit
deriving DecidableEq, Repr

/-! ### The part -/

/-- The state of the part. `sentRecords` and `sentFrames` are the model's own: what has left on the
fixture channels and on SL_TX since power-on, oldest first (log entry 3). `pending` is the queue of
commands that wait. -/
structure State where
  bays : PerBay Bay
  demod : Demod
  events : EventQueue
  link : Link
  sentRecords : PerBay (List OutRecord)
  sentFrames : List TxFrame
  pending : List Instr
deriving DecidableEq, Repr

/-- The block never stops by itself, so no fault exists (log entry 25). -/
inductive Fault
deriving DecidableEq, Repr

/-- `notModelled` is raised by the dispatch for a command that has no meaning; it would be safe. No
arm raises it. -/
inductive Refusal where
  | notModelled (mnemonic : String)
deriving DecidableEq, Repr

/-! ### Values at reset -/

/-- The default profile (section 10.6). -/
def Profile.default : Profile where
  headCount := 4
  refHead := 0
  driftHead := 1
  refZone := 0
  queueDepth := 32
  lossMode := .normal
  lossOutput := .holdLast
  acqCount := 32
  acqTimeoutMs := 3000
  minSum := 256
  currentLimit := 8192
  bias := 0
  kp := 96
  kd := 320
  slewPu := 2048
  onTrackWindow := 205
  settleCount := 16
  settleTimeout := 4000
  headSwitchWedges := 4
  avgCount := 32
  spreadLimit := 410
  amplitudeFloor := 512
  revisitCount := 16
  revisitMs := 60000
  revisitDelta := 6
  driftLimit := 410
  writeBlocks := 32
  readBlocks := 8
  passLimit := 2
  minWindow := 512
  patternLoop := .off
  holdTemp := 220
  hyst := 12
  cutoffTemp := 260
  faultLineAction := .cutoff
  restOutput := .zero
  parkCurrent := -4096

/-- R10. -/
def Counter.reset : Counter := ⟨0, none, false, none, none⟩
/-- R26. -/
def Intake.reset : Intake := ⟨[], false⟩
/-- R32, R37. -/
def Acq.reset : Acq := ⟨.follow, 0, 0, 0⟩
/-- R43. -/
def Ctrl.reset : Ctrl := ⟨.offline, 0, 0, 0, none, none, none, 0, 0, false, none⟩
/-- R86, R99, R100, R101. -/
def Meas.reset : Meas := ⟨none, [], 0, 0, 0, false, false, false⟩
/-- R106. -/
def Counters.zero : Counters := ⟨0, 0, 0⟩
/-- R106: the generator at all ones; the checker register's 0 is a DESIGN CHOICE (log entry 2). -/
def Pattern.reset : Pattern where
  gen := 0x1FFFF#17
  selfCheck := false
  write := none
  loopBuffer := []
  capture := none
  checker := .hunt
  reg := 0#17
  sinceRestart := 0
  run := 0
  winCompared := 0
  winMismatches := 0
  posCompared := 0
  posMismatches := 0
  running := Counters.zero
  holding := Counters.zero
/-- R145. -/
def Holds.none : Holds := ⟨false, false, false, false, false⟩
/-- R134. -/
def Sweep.reset : Sweep where
  active := false
  number := 0
  seqNext := 0
  plan := .none
  basePlan := .finished
  work := .none
  phaseLimit := 0
  probe := .none
  stack := []
  holds := Holds.none
  retry := 0
  measured := 0
  skipped := 0
  lost := 0
  lastStep := .none
  lastOutcome := .none
/-- R152. -/
def Thermal.reset : Thermal := ⟨none, 0, false, false, false, false, false, none⟩
/-- The default dispositions of section 9.1, kinds 0 to 17. -/
def defaultDispositions : List Disposition :=
  [.latch, .notify, .notify, .latch, .latch, .latch, .notify, .latch, .notify, .notify, .notify,
   .notify, .latch, .notify, .notify, .notify, .latch, .latch]
/-- R167, R168. -/
def EventUnit.reset : EventUnit := ⟨0#18, defaultDispositions⟩

/-- Every block of a bay at its power-on values (R181). -/
def Bay.reset : Bay where
  profile := Profile.default
  counter := Counter.reset
  intake := Intake.reset
  acq := Acq.reset
  ctrl := Ctrl.reset
  map := []
  zones := []
  store := []
  meas := Meas.reset
  pattern := Pattern.reset
  sweep := Sweep.reset
  thermal := Thermal.reset
  unit := EventUnit.reset

/-- R9. -/
def Demod.reset : Demod := ⟨none, .bay3⟩
/-- R170. -/
def EventQueue.reset : EventQueue := ⟨[], false⟩
/-- R181, with the line rate that BAUD_SEL chose (R174). -/
def Link.reset (fast : Bool) : Link := ⟨fast, .hunting, [], false, [], none⟩

/-- The part right after the release of RSTN (R181). BAUD_SEL low is a DESIGN CHOICE (log entry 1). -/
def State.reset : State where
  bays := PerBay.all Bay.reset
  demod := Demod.reset
  events := EventQueue.reset
  link := Link.reset false
  sentRecords := PerBay.all []
  sentFrames := []
  pending := []

end Sys2Proof.Machine
end

