-- ==== Sys2Proof/Machine/Operands.lean ====
section
/-! DEFINITION. Numbers: the roundings of 00 section 6, clamping and saturating, the codes of the
enumerations and the sizes of the encoded items (R184, R185). -/

namespace Sys2Proof.Machine

/-! ### Roundings (00 section 6) -/

/-- Quotient toward zero. -/
def truncDiv (a : Int) (b : Nat) : Int := a.tdiv b

/-- Quotient toward minus infinity, for a positive divisor. -/
def floorDiv (a : Int) (b : Nat) : Int := a / (b : Int)

/-- Nearest integer, exact halves away from zero, for a positive divisor. -/
def roundHalfAway (a : Int) (b : Nat) : Int :=
  if 0 ≤ a then (2 * a + b) / (2 * b : Int) else -((2 * (-a) + b) / (2 * b : Int))

/-- The nearest value of `lo..hi`. -/
def clamp (lo hi v : Int) : Int := if v < lo then lo else if hi < v then hi else v

/-- A value held within `±limit`. -/
def clampSym (limit : Nat) (v : Int) : Int := clamp (-(limit : Int)) limit v

/-- One more, held at `top`. -/
def satInc (top n : Nat) : Nat := if n < top then n + 1 else n

/-! ### Bays -/

/-- The bay a bay byte names, if any (R177 check 3). -/
def bayOfByte (b : Byte) : Option BayIx :=
  if b = 0 then some .bay0
  else if b = 1 then some .bay1
  else if b = 2 then some .bay2
  else if b = 3 then some .bay3
  else none

/-- The bay after this one in the demodulator's search order (R7). -/
def nextBay : BayIx → BayIx
  | .bay0 => .bay1
  | .bay1 => .bay2
  | .bay2 => .bay3
  | .bay3 => .bay0

/-- All bays in number order. -/
def allBays : List BayIx := [.bay0, .bay1, .bay2, .bay3]

/-! ### Codes of enumerations, counting from 0 (R184) -/

def BayState.code : BayState → Nat
  | .offline => 0 | .idle => 1 | .acquire => 2 | .follow => 3 | .sweep => 4 | .held => 5 | .fault => 6

def Intent.code : Intent → Nat
  | .follow => 0 | .sweep => 1

def Quadrant.code : Quadrant → Nat
  | .one => 0 | .two => 1 | .three => 2 | .four => 3

def SampleClass.code : SampleClass → Nat
  | .noSync => 0 | .foreign => 1 | .weak => 2 | .unplaced => 3 | .position => 4

def Status.code : Status → Nat
  | .ok => 0 | .adjusted => 1 | .badLength => 2 | .unknownKind => 3 | .badBay => 4 | .badArg => 5
  | .busy => 6 | .full => 7 | .queueFull => 8

def SweepOutcome.code : SweepOutcome → Nat
  | .complete => 0 | .aborted => 1 | .refFailed => 2 | .lostServo => 3 | .faulted => 4
  | .poweredOff => 5

def StepKind.code : StepKind → Nat
  | .offset => 0 | .jog => 1 | .ref => 2

def StepKind.ofCode (n : Nat) : Option StepKind :=
  if n = 0 then some .offset else if n = 1 then some .jog else if n = 2 then some .ref else none

/-- The place of an outcome among the outcomes of R134; none is the absence of the item (log entry 31, a
DESIGN CHOICE). -/
def StepOutcome.code : StepOutcome → Nat
  | .written => 0 | .skipped => 1 | .discarded => 2

def BasePlan.code : BasePlan → Nat
  | .standing => 0 | .finished => 1 | .lost => 2

def VisitKind.code : VisitKind → Nat
  | .opening => 0 | .onTrigger => 1 | .closing => 2 | .planned => 3

def CheckerState.code : CheckerState → Nat
  | .hunt => 0 | .check => 1 | .locked => 2

def Disposition.code : Disposition → Nat
  | .latch => 0 | .notify => 1 | .hold => 2

def Disposition.ofCode (n : Nat) : Option Disposition :=
  if n = 0 then some .latch else if n = 1 then some .notify else if n = 2 then some .hold else none

def FaultLineAction.code : FaultLineAction → Nat
  | .none => 0 | .hold => 1 | .cutoff => 2

/-- A cause is sent as its order in R70. -/
def Cause.code : Cause → Nat
  | .settleTimeout => 1 | .noSamples => 2 | .noServo => 3 | .spread => 4 | .lowAmplitude => 5
  | .offsetRange => 6 | .driftExcess => 7 | .noClosingRef => 8 | .noZone => 9 | .noHead => 10
  | .writeTimeout => 11 | .noReadback => 12 | .noPass => 13 | .narrowWindow => 14 | .edgeRun => 15

/-- 0 means no cause (R184). -/
def causeCode (c : Option Cause) : Nat :=
  match c with
  | none => 0
  | some c => c.code

/-- Statuses of a part of the map (section 10.7.3); ABSENT is 0. -/
def PartStatus.code : PartStatus → Nat
  | .provisional => 1 | .good => 2 | .suspect => 3 | .failed => 4

def EventKind.number : EventKind → Nat
  | .acquired => 0 | .servoLoss => 1 | .acquireTimeout => 2 | .positionSlip => 3 | .quadJump => 4
  | .queueWarn => 5 | .queueOverrun => 6 | .stepFailed => 7 | .driftExcess => 8 | .resumeLost => 9
  | .sweepDone => 10 | .tempHold => 11 | .tempClear => 12 | .tempCutoff => 13 | .sensorStale => 14
  | .faultLine => 15 | .patternLost => 16 | .countSaturated => 17

/-- The kind whose details these are. -/
def Details.kind : Details → EventKind
  | .acquired .. => .acquired
  | .servoLoss .. => .servoLoss
  | .acquireTimeout .. => .acquireTimeout
  | .positionSlip .. => .positionSlip
  | .quadJump .. => .quadJump
  | .queueWarn .. => .queueWarn
  | .queueOverrun .. => .queueOverrun
  | .stepFailed .. => .stepFailed
  | .driftExcess .. => .driftExcess
  | .resumeLost .. => .resumeLost
  | .sweepDone .. => .sweepDone
  | .tempHold .. => .tempHold
  | .tempClear .. => .tempClear
  | .tempCutoff .. => .tempCutoff
  | .sensorStale .. => .sensorStale
  | .faultLine .. => .faultLine
  | .patternLost .. => .patternLost
  | .countSaturated .. => .countSaturated

/-- The place of a phase in the table of section 5.3, the phases of an offset measurement or visit. -/
def Phase.measureCode : Phase → Option Nat
  | .seek => some 0 | .settle => some 1 | .refAvg => some 2 | .switch => some 3 | .headAvg => some 4
  | .retHead => some 5
  | .loopSwitchOut => none | .writePass => none | .move _ => none | .settleAt _ => none
  | .read _ => none | .loopSwitchBack => none | .interrupted => none

/-- The place of a phase in the table of section 6.4, the phases of a JOG step. -/
def Phase.jogCode : Phase → Option Nat
  | .loopSwitchOut => some 0 | .seek => some 1 | .settle => some 2 | .writePass => some 3
  | .move _ => some 4 | .settleAt _ => some 5 | .read _ => some 6 | .loopSwitchBack => some 7
  | .refAvg => none | .switch => none | .headAvg => none | .retHead => none | .interrupted => none

/-- The phase of the work in flight as its place in the table that defines the phases of that kind of
work (R184). Work that waits for reacquisition is in no phase of the tables and has none (log entry
11). -/
def Work.phaseCode (w : Work) : Option Nat :=
  match w.job with
  | .jog _ _ => w.phase.jogCode
  | .offset _ _ => w.phase.measureCode
  | .visit _ => w.phase.measureCode

/-! ### Encoded items (R184, R185) -/

def byte1 (n : Nat) : List Byte := leBytes 1 n
def byte2 (v : Int) : List Byte := leBytes 2 v
def byte4 (v : Int) : List Byte := leBytes 4 v

/-- A flag or yes-or-no item: one byte, 1 for yes. -/
def flagByte (b : Bool) : List Byte := byte1 b.toNat

/-- An optional item of `size` bytes after its presence byte; absent it is sent as 0. -/
def optBytes (size : Nat) (v : Option Int) : List Byte :=
  match v with
  | some v => 1 :: leBytes size v
  | none => 0 :: leBytes size 0

/-- An optional temperature: −32,768 when absent or unknown. -/
def tempBytes (t : Option Int) : List Byte :=
  match t with
  | some t => leBytes 2 t
  | none => leBytes 2 (-32768)

/-- An optional sequence number: 0 when absent. -/
def seqBytes (s : Option Nat) : List Byte :=
  match s with
  | some s => leBytes 2 s
  | none => leBytes 2 0

/-- A presence byte: bit n says that field n is there. -/
def presenceByte (bits : List Bool) : List Byte :=
  let bit (k : Nat) : Nat := if bits.getD k false then 2 ^ k else 0
  byte1 (bit 0 + bit 1 + bit 2 + bit 3 + bit 4 + bit 5 + bit 6 + bit 7)

/-- The hold-cause set as one byte, in the order of R145. -/
def Holds.bytes (h : Holds) : List Byte := presenceByte [h.host, h.thermal, h.stale, h.faultLine, h.event]

/-- An optional number as a signed item. -/
def optNat (n : Option Nat) : Option Int :=
  match n with
  | some n => some n
  | none => none

end Sys2Proof.Machine
end

