-- ==== Sys2Proof/Machine/Frames.lean ====
section
/-! DEFINITION. What leaves the part, as bytes: event frames (section 10.7.4), answers (R177), and
outbound fixture records (section 10.7.5). -/

namespace Sys2Proof.Machine

/-- Origin BASE or PROBE with the next index or the probe id (section 10.7.4). -/
def Plan.bytes : Plan → List Byte
  | .base next => byte1 0 ++ byte1 next
  | .probe id _ => byte1 1 ++ byte1 id

/-- A wedge index, 0xFFFF when absent (section 10.7.4). -/
def indexBytes (i : Option Nat) : List Byte :=
  match i with
  | some i => byte2 i
  | none => byte2 65535

/-- The details of an event, in the order of section 9.1 and the sizes of section 10.7.4. -/
def Details.bytes : Details → List Byte
  | .acquired head position intent elapsed =>
      byte1 head ++ byte4 position ++ byte1 intent.code ++ byte4 elapsed
  | .servoLoss head left threshold cls =>
      byte1 head ++ byte1 left.code ++ byte2 threshold ++ byte1 cls.code
  | .acquireTimeout head intent run resolved =>
      byte1 head ++ byte1 intent.code ++ byte2 run ++ flagByte resolved
  | .positionSlip head slip seq => byte1 head ++ byte4 slip ++ byte2 seq
  | .quadJump head before after count =>
      byte1 head ++ byte1 before.code ++ byte1 after.code ++ byte4 count
  | .queueWarn occupancy depth => byte2 occupancy ++ byte2 depth
  | .queueOverrun occupancy head index => byte2 occupancy ++ byte1 head ++ indexBytes index
  | .stepFailed head zone kind cause seq =>
      byte1 head ++ byte1 zone ++ byte1 kind.code ++ byte1 cause.code ++ byte2 seq
  | .driftExcess sa va sb vb drift corrected suspect =>
      byte2 sa ++ byte2 va ++ byte2 sb ++ byte2 vb ++ byte4 drift ++ byte2 corrected ++ byte2 suspect
  | .resumeLost plan => plan.bytes
  | .sweepDone number outcome measured skipped lost suspect =>
      byte2 number ++ byte1 outcome.code ++ byte2 measured ++ byte2 skipped ++ byte2 lost ++
        byte2 suspect
  | .tempHold temp holdTemp => byte2 temp ++ byte2 holdTemp
  | .tempClear temp limit => byte2 temp ++ byte2 limit
  | .tempCutoff temp cutoffTemp before => byte2 temp ++ byte2 cutoffTemp ++ byte1 before.code
  | .sensorStale temp => tempBytes temp
  | .faultLine action state => byte1 action.code ++ byte1 state.code
  | .patternLost head zone k seq compared =>
      byte1 head ++ byte1 zone ++ byte2 k ++ byte2 seq ++ byte2 compared
  | .countSaturated head checked => byte1 head ++ byte4 checked

/-- An event frame's body: bay, kind number, details (section 10.7.4). -/
def EventFrame.body (e : EventFrame) : List Byte :=
  e.bay.byte :: (byte1 e.details.kind.number ++ e.details.bytes)

/-- An answer's body, status first (R177). -/
def Answer.fullBody (a : Answer) : List Byte := byte1 a.status.code ++ a.body

/-- An answer's kind: the request's plus 0x80, modulo 256 (R177; for QUEUE_FULL, log entry 9). -/
def Answer.kind (a : Answer) : Byte := a.request + 0x80

/-- The bytes of a transmitted frame (section 10.7.1). -/
def TxFrame.bytes : TxFrame → List Byte
  | .answer a => frameBytes a.kind a.tag a.fullBody
  | .event e => frameBytes Config.eventKind 0 e.body

/-- The bytes of an outbound record (section 10.7.5). -/
def OutRecord.bytes : OutRecord → List Byte
  | .head h => 0x81 :: byte1 h
  | .drive c => 0x82 :: byte2 c
  | .write index count bits => 0x83 :: (byte1 index ++ byte1 count ++ packBits 32 bits)
  | .capture n => 0x84 :: byte1 n
  | .power on => 0x85 :: flagByte on

end Sys2Proof.Machine
end

