-- ==== Sys2Proof/Machine/Ctx.lean ====
section
/-! DEFINITION. One bay at work. A command's effect on a bay is a function of `Ctx`: the bay's blocks,
and what the bay gives out while the command lasts, which is the event frames it offers and the fixture
records it sends, each oldest first. `notes` names what came about inside a sample (95), so that the
row of such an event can be told from the rest. Nothing of `Ctx` but the bay outlasts the command. -/

namespace Sys2Proof.Machine

/-- Events of a delivered sample that have a row of their own in the opcode table. -/
inductive Note where
  | servoLoss | switchWaitEnd | settleTimeout | windowTimeout | returnLimit | loopSwitchLimit
  | writeTimeout | captureTimeout
deriving DecidableEq, Repr

/-- A bay at work. -/
structure Ctx where
  id : BayIx
  bay : Bay
  frames : List EventFrame
  records : List OutRecord
  notes : List Note
deriving DecidableEq, Repr

/-- A bay with nothing given out yet. -/
def Ctx.start (b : BayIx) (bay : Bay) : Ctx := ⟨b, bay, [], [], []⟩

/-! ### Changing one block -/

def Ctx.setCounter (c : Ctx) (x : Counter) : Ctx := { c with bay := { c.bay with counter := x } }
def Ctx.setIntake (c : Ctx) (x : Intake) : Ctx := { c with bay := { c.bay with intake := x } }
def Ctx.setAcq (c : Ctx) (x : Acq) : Ctx := { c with bay := { c.bay with acq := x } }
def Ctx.setCtrl (c : Ctx) (x : Ctrl) : Ctx := { c with bay := { c.bay with ctrl := x } }
def Ctx.setMap (c : Ctx) (x : Table Entry) : Ctx := { c with bay := { c.bay with map := x } }
def Ctx.setZones (c : Ctx) (x : Table (Option Zone)) : Ctx := { c with bay := { c.bay with zones := x } }
def Ctx.setStore (c : Ctx) (x : List StepRec) : Ctx := { c with bay := { c.bay with store := x } }
def Ctx.setMeas (c : Ctx) (x : Meas) : Ctx := { c with bay := { c.bay with meas := x } }
def Ctx.setPattern (c : Ctx) (x : Pattern) : Ctx := { c with bay := { c.bay with pattern := x } }
def Ctx.setSweep (c : Ctx) (x : Sweep) : Ctx := { c with bay := { c.bay with sweep := x } }
def Ctx.setThermal (c : Ctx) (x : Thermal) : Ctx := { c with bay := { c.bay with thermal := x } }
def Ctx.setUnit (c : Ctx) (x : EventUnit) : Ctx := { c with bay := { c.bay with unit := x } }
def Ctx.setProfile (c : Ctx) (x : Profile) : Ctx := { c with bay := { c.bay with profile := x } }

/-- An outbound fixture record leaves, after those already sent (R25). -/
def Ctx.send (c : Ctx) (r : OutRecord) : Ctx := { c with records := c.records ++ [r] }

/-- An event frame is offered, after those already offered (R166). -/
def Ctx.offer (c : Ctx) (d : Details) : Ctx := { c with frames := c.frames ++ [⟨c.id, d⟩] }

/-- A named event came about. -/
def Ctx.note (c : Ctx) (n : Note) : Ctx := { c with notes := c.notes ++ [n] }

/-! ### Reading -/

def Ctx.profile (c : Ctx) : Profile := c.bay.profile
def Ctx.ctrl (c : Ctx) : Ctrl := c.bay.ctrl
def Ctx.sweep (c : Ctx) : Sweep := c.bay.sweep
def Ctx.meas (c : Ctx) : Meas := c.bay.meas
def Ctx.pattern (c : Ctx) : Pattern := c.bay.pattern
def Ctx.thermal (c : Ctx) : Thermal := c.bay.thermal

end Sys2Proof.Machine
end

