-- ==== Sys2Proof/Machine/Flags.lean ====
section
/-! DEFINITION. The event unit's part of a bay: latched flags, dispositions, the hold-cause set, and
raising an event (R145, R166 to R169). -/

namespace Sys2Proof.Machine

/-- The five hold causes (R145). -/
inductive HoldCause where
  | host | thermal | stale | faultLine | event
deriving DecidableEq, Repr

/-- The set with a cause put in or taken out. -/
def Holds.put (h : Holds) (cause : HoldCause) (present : Bool) : Holds :=
  match cause with
  | .host => { h with host := present }
  | .thermal => { h with thermal := present }
  | .stale => { h with stale := present }
  | .faultLine => { h with faultLine := present }
  | .event => { h with event := present }

/-- Whether the set is empty. -/
def Holds.isEmpty (h : Holds) : Bool := h == Holds.none

/-- A cause joins the set, while the sweep is active (R145). -/
def addCause (cause : HoldCause) (c : Ctx) : Ctx :=
  if c.sweep.active then c.setSweep { c.sweep with holds := c.sweep.holds.put cause true } else c

/-- Whether a kind's flag is set. -/
def EventUnit.flag (u : EventUnit) (k : EventKind) : Bool := u.latched.getLsbD k.number

/-- The unit with a kind's flag set (R166 step 1). -/
def EventUnit.setFlag (u : EventUnit) (k : EventKind) : EventUnit :=
  { u with latched := u.latched ||| (1#18 <<< k.number) }

/-- The unit with the flags a mask names cleared (R173). -/
def EventUnit.clearFlags (u : EventUnit) (mask : Nat) : EventUnit :=
  { u with latched := u.latched &&& ~~~(BitVec.ofNat 18 mask) }

/-- A kind's disposition (R168). -/
def EventUnit.disposition (u : EventUnit) (k : EventKind) : Disposition :=
  u.dispositions.getD k.number .latch

/-- The kinds fixed at NOTIFY, by number: SWEEP_DONE and TEMP_CUTOFF (R168). -/
def fixedKind (n : Nat) : Bool := n == EventKind.sweepDone.number || n == EventKind.tempCutoff.number

/-- Raising an event for the bay (R166): its flag is set; under NOTIFY and HOLD a frame is offered; under
HOLD, while the sweep is active, EVENT joins the hold-cause set. -/
def raise (d : Details) (c : Ctx) : Ctx :=
  let c1 := c.setUnit (c.bay.unit.setFlag d.kind)
  match c.bay.unit.disposition d.kind with
  | .latch => c1
  | .notify => c1.offer d
  | .hold => addCause .event (c1.offer d)

end Sys2Proof.Machine
end

