-- ==== Sys2Proof/Machine/Ops.lean ====
section
/-! DEFINITION. The operations the commands share: tables, the bay controller's head selects, targets
and outputs (chapter 3), and entering ACQUIRE (R32). -/

namespace Sys2Proof.Machine

/-! ### Tables -/

/-- What a key reads as. -/
def Table.get {α : Type} (d : α) : Table α → Nat → α
  | [], _ => d
  | (k, v) :: rest, i => if k = i then v else Table.get d rest i

/-- The table with a key's value replaced; the value an unlisted key reads as is not listed. -/
def Table.put {α : Type} [DecidableEq α] (d : α) : Table α → Nat → α → Table α
  | [], i, v => if v = d then [] else [(i, v)]
  | (k, w) :: rest, i, v =>
    if i < k then (if v = d then (k, w) :: rest else (i, v) :: (k, w) :: rest)
    else if k = i then (if v = d then rest else (i, v) :: rest)
    else (k, w) :: Table.put d rest i v

/-- The canonical form: keys above `floor` and strictly rising, no value equal to the unlisted one. -/
def Table.wfFrom {α : Type} [DecidableEq α] (d : α) : Nat → Table α → Bool
  | _, [] => true
  | floor, (k, v) :: rest => floor ≤ k && decide (v ≠ d) && Table.wfFrom d (k + 1) rest

/-- The canonical form of a table. -/
def Table.wf {α : Type} [DecidableEq α] (d : α) (t : Table α) : Bool := Table.wfFrom d 0 t

/-- An entry nothing has been written to (R68). -/
def Entry.empty : Entry := ⟨false, none, none⟩

/-- The place of an entry in head-major order (R68). -/
def mapKey (head zone : Nat) : Nat := head * Config.zones + zone

/-- The entry of a head and zone. -/
def mapGet (m : Table Entry) (head zone : Nat) : Entry := Table.get Entry.empty m (mapKey head zone)

/-- The map with an entry replaced. -/
def mapPut (m : Table Entry) (head zone : Nat) (e : Entry) : Table Entry :=
  Table.put Entry.empty m (mapKey head zone) e

/-- A zone record, or none when the zone is undefined (R130). -/
def zoneGet (z : Table (Option Zone)) (zone : Nat) : Option Zone := Table.get none z zone

/-- The zone table with a zone replaced. -/
def zonePut (z : Table (Option Zone)) (zone : Nat) (r : Option Zone) : Table (Option Zone) :=
  Table.put none z zone r

/-- floor(scan_half / scan_step) (R130). -/
def Zone.halfSteps (z : Zone) : Nat := z.scanHalf / z.scanStep
/-- The number of scan positions K (R130). -/
def Zone.positions (z : Zone) : Nat := 2 * z.halfSteps + 1
/-- The half span H (R130). -/
def Zone.halfSpan (z : Zone) : Nat := z.halfSteps * z.scanStep
/-- Scan position x_k, from the centre of the zone track (section 6.4). -/
def Zone.scanOffset (z : Zone) (k : Nat) : Int := -(z.halfSpan : Int) + (k * z.scanStep : Nat)
/-- The centre of the zone track (R130). -/
def Zone.centre (z : Zone) : Int := (z.track * 4096 : Nat)

/-! ### The actuator command -/

/-- The command becomes `v`; a DRIVE record leaves when it changes (R66). -/
def setCommand (v : Int) (c : Ctx) : Ctx :=
  if v = c.ctrl.command then c else (c.setCtrl { c.ctrl with command := v }).send (.drive v)

/-- The clamped park_current (R64). -/
def parkOutput (p : Profile) : Int := clampSym p.currentLimit p.parkCurrent

/-- The rest output (R64). -/
def restOutput (p : Profile) (command : Int) : Int :=
  match p.restOutput with
  | .holdLast => clampSym p.currentLimit command
  | .zero => 0
  | .park => parkOutput p

/-! ### The position counter's resolution -/

/-- The counter becomes unresolved with qp absent, Cq and the captures kept (R10, R17). -/
def Counter.unresolve (x : Counter) : Counter := { x with qp := none, resolved := false }

/-! ### Heads -/

/-- A head select (R55). Selecting the selected head does nothing; otherwise HEAD leaves, the switch
wait starts, the settle count, the loss count (R37) and the acquisition run (R33) become 0, and the
position counter becomes unresolved (R10). -/
def headSelect (head : Nat) (c : Ctx) : Ctx :=
  if head = c.ctrl.selHead then c
  else
    ((((c.send (.head head)).setCtrl
      { c.ctrl with selHead := head, switchWait := c.profile.headSwitchWedges, settle := 0 }).setCounter
      c.bay.counter.unresolve).setAcq { c.bay.acq with run := 0, loss := 0 })

/-- The loop head changes, with a head select of the same head (R56). A different loop head leaves the
loop unseeded. -/
def setLoopHead (head : Nat) (c : Ctx) : Ctx :=
  headSelect head
    (if head = c.ctrl.loopHead then c
     else c.setCtrl { c.ctrl with loopHead := head, targetNow := none, prevErr := none, settle := 0 })

/-! ### Targets -/

/-- A target of the sweep engine, clamped to the range of absolute positions (R59). -/
def clampTarget (t : Int) : Int := clamp Config.positionMin Config.positionMax t

/-- The sweep engine names a target: target_final takes it and the settle count becomes 0 (R62). -/
def nameTarget (t : Int) (c : Ctx) : Ctx :=
  c.setCtrl { c.ctrl with targetFinal := some (clampTarget t), settle := 0 }

/-- The sweep engine names a target and arms the settle watch (R63). -/
def seekTarget (t : Int) (c : Ctx) : Ctx :=
  c.setCtrl { c.ctrl with targetFinal := some (clampTarget t), settle := 0, watch := some 0 }

/-- The command is frozen for a measurement (R57); the settle watch is disarmed (R63). -/
def freeze (c : Ctx) : Ctx := c.setCtrl { c.ctrl with frozen := true, settle := 0, watch := none }

/-- The command is free again (R57). -/
def unfreeze (c : Ctx) : Ctx := c.setCtrl { c.ctrl with frozen := false }

/-! ### States of the bay -/

/-- Entering ACQUIRE (R32): the run count, the elapsed time and the loss count become 0 and the timer
starts; the counter becomes unresolved (R17), the command is free (R57), the settle count becomes 0
(R62) and the settle watch is disarmed (R63). -/
def enterAcquire (intent : Intent) (c : Ctx) : Ctx :=
  ((c.setAcq { intent := intent, run := 0, elapsed := 0, loss := 0 }).setCounter
    c.bay.counter.unresolve).setCtrl
    { c.ctrl with state := .acquire, settle := 0, frozen := false, watch := none }

/-- Entering IDLE by STOP or CLEAR (R49, R50): targets and previous error absent, settle count 0, the
run count 0 (R32), the rest output applied, with a DRIVE record when the command changes. -/
def enterIdle (c : Ctx) : Ctx :=
  setCommand (restOutput c.profile c.ctrl.command)
    ((c.setAcq { c.bay.acq with run := 0 }).setCtrl
      { c.ctrl with state := .idle, targetFinal := none, targetNow := none, prevErr := none,
                    settle := 0 })

/-- The output of the bay's state is evaluated again after a profile change (R65). -/
def reevaluateOutput (c : Ctx) : Ctx :=
  match c.ctrl.state with
  | .offline => setCommand 0 c
  | .idle => setCommand (restOutput c.profile c.ctrl.command) c
  | .fault => setCommand (parkOutput c.profile) c
  | .acquire => c
  | .follow => c
  | .sweep => c
  | .held => c

/-- Whether the bay is on track (R62). -/
def onTrack (c : Ctx) : Bool := c.profile.settleCount ≤ c.ctrl.settle

/-- Whether a bay is following: FOLLOW, SWEEP or HELD. -/
def BayState.following : BayState → Bool
  | .follow => true
  | .sweep => true
  | .held => true
  | .offline => false
  | .idle => false
  | .acquire => false
  | .fault => false

/-- The loss threshold (R36). -/
def lossThreshold (p : Profile) : Nat :=
  match p.lossMode with
  | .normal => 24
  | .extended => 1536

/-- The depth of the wedge queue less three, at which the warn level rises (R29). -/
def warnThreshold (p : Profile) : Nat := p.queueDepth - 3

/-- The number most recently assigned in the bay's active sweep, or 0 (R16, R143). -/
def lastSeqOrZero (s : Sweep) : Nat := if s.active then s.seqNext - 1 else 0

end Sys2Proof.Machine
end

