-- ==== Sys2Proof/Machine/Measure.lean ====
section
/-! DEFINITION. Measurements (chapter 5) and what they leave in the Head Map (chapter 4): the averaging
window, the result of an offset measurement, the reference log, revisit triggers and drift correction. -/

namespace Sys2Proof.Machine

/-! ### Averaging window (R86 to R89) -/

/-- The largest power of two not above avg_count, 4 to 256 (R86). -/
def windowSize (avgCount : Nat) : Nat :=
  if 256 ≤ avgCount then 256
  else if 128 ≤ avgCount then 128
  else if 64 ≤ avgCount then 64
  else if 32 ≤ avgCount then 32
  else if 16 ≤ avgCount then 16
  else if 8 ≤ avgCount then 8
  else 4

/-- The window opens on a head (R86). -/
def openWindow (head : Nat) (c : Ctx) : Ctx :=
  c.setMeas { c.meas with
    window := some ⟨head, windowSize c.profile.avgCount, 0, 0, none, 0, 0, false⟩ }

/-- The window closes. -/
def closeWindow (c : Ctx) : Ctx := c.setMeas { c.meas with window := none }

/-- The extremes with a position taken in (R87). -/
def widen (e : Option (Int × Int)) (x : Int) : Int × Int :=
  match e with
  | none => (x, x)
  | some (lo, hi) => (if x < lo then x else lo, if hi < x then x else hi)

/-- The delivered count rises (R87). -/
def Window.deliver (w : Window) : Window := { w with delivered := w.delivered + 1 }

/-- A sample that reaches the sweep engine acts on the window by its class (R87). -/
def Window.collect (w : Window) (x : Sample) : Window :=
  if x.head ≠ w.head then w
  else
    match x.cls, x.position with
    | .position, some pos =>
      { w with collected := w.collected + 1, sum := w.sum + pos, extremes := some (widen w.extremes pos),
               bursts := w.bursts + x.burstSum.getD 0, syncSeen := true }
    | .weak, _ => { w with syncSeen := true }
    | .unplaced, _ => { w with syncSeen := true }
    | _, _ => w

/-- What a completed window forms (R88). -/
def Window.result (w : Window) : WindowResult where
  mean := roundHalfAway w.sum w.size
  spread := match w.extremes with
    | some (lo, hi) => min 65535 (hi - lo).toNat
    | none => 0
  amplitude := (roundHalfAway w.bursts w.size).toNat

/-- The delivered count at which the window times out (R89). -/
def Window.limit (w : Window) : Nat := 4 * w.size + 64

/-- The cause a timed-out window gives (R89). -/
def Window.cause (w : Window) : Cause := if w.syncSeen then .noSamples else .noServo

/-! ### The result of a measurement (R95) -/

/-- The offset before clamping, mean_h − mean_ref. -/
def rawOffset (ref head : WindowResult) : Int := head.mean - ref.mean

/-- The offset of a result, clamped to ±32,767. -/
def offsetOf (ref head : WindowResult) : Int := clampSym 32767 (rawOffset ref head)

/-- The spread of a result. -/
def spreadOf (ref head : WindowResult) : Nat := max ref.spread head.spread

/-- The first finding that applies (R95). -/
def findingOf (p : Profile) (ref head : WindowResult) : Option Cause :=
  if p.spreadLimit < spreadOf ref head then some .spread
  else if head.amplitude < p.amplitudeFloor then some .lowAmplitude
  else if rawOffset ref head ≠ offsetOf ref head then some .offsetRange
  else none

/-- A FAILED offset part (R69, R70). -/
def failedOffset (cause : Cause) (sweep : Nat) (seq : Option Nat) (temp : Option Int) : OffsetPart :=
  ⟨.failed, some cause, none, none, none, sweep, seq, temp, none, none⟩

/-- A measured offset part, PROVISIONAL with its finding (R71, R95). -/
def measuredOffset (p : Profile) (ref head : WindowResult) (sweep : Nat) (seq : Option Nat)
    (temp : Option Int) : OffsetPart :=
  ⟨.provisional, none, findingOf p ref head, some (offsetOf ref head), none, sweep, seq, temp,
    some head.amplitude, some (spreadOf ref head)⟩

/-- The reference head's offset part (R96). -/
def referenceOffset (sweep : Nat) (seq : Option Nat) (temp : Option Int) : OffsetPart :=
  ⟨.good, none, none, some 0, none, sweep, seq, temp, none, none⟩

/-- A FAILED jog part without a scan profile (R74). -/
def failedJog (cause : Cause) (sweep : Nat) (seq : Option Nat) (temp : Option Int) : JogPart :=
  ⟨.failed, some cause, none, none, sweep, seq, temp⟩

/-- The reported offset (R73). -/
def OffsetPart.reported (x : OffsetPart) : Option Int :=
  match x.raw with
  | some raw => some (raw - x.correction.getD 0)
  | none => none

/-! ### The map as a whole -/

/-- Whether an entry's offset part is PROVISIONAL. -/
def Entry.provisional (e : Entry) : Bool :=
  match e.offset with
  | some x => x.status == .provisional
  | none => false

/-- Whether any offset part of the bay is PROVISIONAL (R72). -/
def anyProvisional (m : Table Entry) : Bool := m.any fun kv => kv.2.provisional

/-- The offset parts with status SUSPECT of one sweep (R81). -/
def suspectCount (m : Table Entry) (sweep : Nat) : Nat :=
  m.countP fun kv =>
    match kv.2.offset with
    | some x => x.status == .suspect && x.sweep == sweep
    | none => false

/-- The map with every PROVISIONAL offset part changed by `f`. -/
def mapProvisional (f : OffsetPart → OffsetPart) (m : Table Entry) : Table Entry :=
  m.map fun kv =>
    match kv.2.offset with
    | some x => if x.status = .provisional then (kv.1, { kv.2 with offset := some (f x) }) else kv
    | none => kv

/-- A PROVISIONAL part at a sweep end other than COMPLETE (R71 last row, R81). -/
def OffsetPart.unclosed (x : OffsetPart) : OffsetPart :=
  { x with status := .suspect, cause := some (x.finding.getD .noClosingRef), finding := none }

/-- A PROVISIONAL part under drift correction (R71 first two rows, R80). -/
def OffsetPart.corrected (x : OffsetPart) (correction : Int) (excess : Bool) : OffsetPart :=
  match x.finding with
  | some f => { x with status := .suspect, cause := some f, finding := none, correction := some correction }
  | none =>
    if excess then
      { x with status := .suspect, cause := some .driftExcess, finding := none,
               correction := some correction }
    else { x with status := .good, cause := none, finding := none, correction := some correction }

/-! ### Reference log and drift correction (R99, R102, R103) -/

/-- The log with a record appended; at 64 records the second-oldest goes first (R99). -/
def appendLog (log : List RefRecord) (r : RefRecord) : List RefRecord :=
  if log.length < Config.logSize then log ++ [r]
  else
    match log with
    | first :: _ :: rest => first :: rest ++ [r]
    | short => short ++ [r]

/-- The straight line through two visits at a sequence number, rounded once (R102). -/
def interp (a b : RefRecord) (s : Nat) : Int :=
  roundHalfAway (a.value * ((b.seq : Int) - a.seq) + (b.value - a.value) * ((s : Int) - a.seq))
    (b.seq - a.seq)

/-- Whether the drift of an interval exceeds drift_limit (R103). -/
def driftExceeds (p : Profile) (a b : RefRecord) : Bool := p.driftLimit < (b.value - a.value).natAbs

/-- The number of PROVISIONAL offset parts; `bare` counts only those without a finding. -/
def provisionalCount (m : Table Entry) (bare : Bool) : Nat :=
  m.countP fun kv =>
    match kv.2.offset with
    | some x => x.status == .provisional && (!bare || x.finding.isNone)
    | none => false

/-- Drift correction after a successful visit `b`, with `a` the newest record before it and ref0 the
first record's value; DRIFT_EXCESS is raised after the map is updated (R80, R102, R103). -/
def correctDrift (a b : RefRecord) (ref0 : Int) (c : Ctx) : Ctx :=
  let excess := driftExceeds c.profile a b
  let n := provisionalCount c.bay.map false
  let bare := provisionalCount c.bay.map true
  let c1 := c.setMap
    (mapProvisional (fun x => x.corrected (interp a b (x.seq.getD 0) - ref0) excess) c.bay.map)
  if excess then
    raise (.driftExcess a.seq a.value b.seq b.value (b.value - a.value) n bare) c1
  else c1

/-- A successful visit (R98): its record joins the log, drift is corrected, the triggers and the
failed-visit count are cleared, and the temperature at the last reference is the record's (R101). -/
def visitSucceeds (r : RefRecord) (c : Ctx) : Ctx :=
  let old := c.meas.log
  let c1 := c.setMeas { c.meas with log := appendLog old r }
  let c2 := match old.getLast?, old.head? with
    | some a, some first => correctDrift a r first.value c1
    | _, _ => c1
  (c2.setMeas { c2.meas with failedVisits := 0, offsetCount := 0, elapsed := 0, dueCount := false,
                             dueTime := false, dueTemp := false }).setThermal
    { c2.thermal with lastRef := r.temp }

/-! ### Revisit triggers (R101) -/

/-- Whether the temperature trigger's condition holds. -/
def tempTrigger (p : Profile) (now last : Option Int) : Bool :=
  match now, last with
  | some t, some r => p.revisitDelta ≤ (t - r).natAbs
  | _, _ => false

/-- The flags of the conditions that hold are set (R101). -/
def testTriggers (c : Ctx) : Ctx :=
  c.setMeas { c.meas with
    dueCount := c.meas.dueCount || decide (c.profile.revisitCount ≤ c.meas.offsetCount)
    dueTime := c.meas.dueTime || decide (c.profile.revisitMs ≤ c.meas.elapsed)
    dueTemp := c.meas.dueTemp || tempTrigger c.profile c.thermal.temp c.thermal.lastRef }

/-- Whether any revisit flag is set. -/
def Meas.due (m : Meas) : Bool := m.dueCount || m.dueTime || m.dueTemp

/-! ### Writing a result (R77, R79, R82) -/

/-- A finished step's result. -/
inductive StepResult where
  | offset (x : OffsetPart)
  | jog (x : JogPart)
deriving DecidableEq, Repr

/-- The entry with a result written over the part of its kind (R77). -/
def Entry.write (e : Entry) : StepResult → Entry
  | .offset x => { e with offset := some x }
  | .jog x => { e with jog := some x }

/-- The cause of a FAILED result with its kind and sequence number (R82). -/
def StepResult.failure : StepResult → Option (StepKind × Cause × Nat)
  | .offset x =>
    if x.status = .failed then some (.offset, x.cause.getD .settleTimeout, x.seq.getD 0) else none
  | .jog x =>
    if x.status = .failed then some (.jog, x.cause.getD .settleTimeout, x.seq.getD 0) else none

/-- Whether a result is a PROVISIONAL offset part, which raises the offset count (R101). -/
def StepResult.provisional : StepResult → Bool
  | .offset x => x.status == .provisional
  | .jog _ => false

/-- The write of a step boundary (R137 step 1): the result goes into the entry by R77, or is discarded
when the entry carries the accepted mark (R79). -/
def writeResult (head zone : Nat) (r : StepResult) (c : Ctx) : Ctx :=
  let e := mapGet c.bay.map head zone
  if e.accepted then
    c.setSweep { c.sweep with skipped := satInc 65535 c.sweep.skipped, lastStep := some .discarded }
  else
    let c1 := c.setMap (mapPut c.bay.map head zone (e.write r))
    let c2 := c1.setSweep
      { c1.sweep with measured := satInc 65535 c1.sweep.measured, lastStep := some .written }
    let c3 := if r.provisional then
        c2.setMeas { c2.meas with offsetCount := satInc 65535 c2.meas.offsetCount } else c2
    match r.failure with
    | some f => raise (.stepFailed head zone f.1 f.2.1 f.2.2) c3
    | none => c3

end Sys2Proof.Machine
end

