-- ==== Sys2Proof/Machine/Pattern.lean ====
section
/-! DEFINITION. The pattern generator and checker (chapter 6): write passes, read captures, the checker's
states, the error counters, and the evaluation of a scan. -/

namespace Sys2Proof.Machine

/-! ### Generator (R107, R108) -/

/-- Bit s17 XOR bit s14 of a register whose bit 0 is s1 (R107, R111). -/
def feedback (r : BitVec 17) : Bool := r.getLsbD 16 != r.getLsbD 13

/-- The register shifted with a new most recent bit (R107). -/
def shiftIn (r : BitVec 17) (bit : Bool) : BitVec 17 := (r <<< 1) ||| (BitVec.ofBool bit).zeroExtend 17

/-- The next `n` bits the generator produces, and the register after them. -/
def genBits : Nat → BitVec 17 → List Bool × BitVec 17
  | 0, r => ([], r)
  | n + 1, r =>
    let bit := feedback r
    let rest := genBits n (shiftIn r bit)
    (bit :: rest.1, rest.2)

/-- A list with the item at place `n` inverted. -/
def flipAt : Nat → List Bool → List Bool
  | _, [] => []
  | 0, b :: bs => (!b) :: bs
  | n + 1, b :: bs => b :: flipAt n bs

/-- `n` blocks of 256 bits each. -/
def blocksOf : Nat → List Bool → List (List Bool)
  | 0, _ => []
  | n + 1, bits => bits.take Config.blockBits :: blocksOf n (bits.drop Config.blockBits)

/-- The bits of a write pass: from all ones, the 65th inverted when the self-check flag is armed
(R107, R108). -/
def passBits (blocks : Nat) (selfCheck : Bool) : List Bool :=
  let bits := (genBits (blocks * Config.blockBits) 0x1FFFF#17).1
  if selfCheck then flipAt 64 bits else bits

/-- The generator's register after a write pass (R107). -/
def passRegister (blocks : Nat) : BitVec 17 := (genBits (blocks * Config.blockBits) 0x1FFFF#17).2

/-- The WRITE records of a pass, from block `j` on (R107). -/
def writeRecords (count : Nat) : Nat → List (List Bool) → List OutRecord
  | _, [] => []
  | j, b :: bs => .write j count b :: writeRecords count (j + 1) bs

/-- A write pass starts (R107, R108, R109, R115): the self-check flag disarms; with pattern_loop OFF the
WRITE records leave and the write is outstanding, with INTERNAL the pass fills the loop buffer. -/
def startPass (c : Ctx) : Ctx :=
  let n := c.profile.writeBlocks
  let blocks := blocksOf n (passBits n c.pattern.selfCheck)
  let p := { c.pattern with gen := passRegister n, selfCheck := false }
  match c.profile.patternLoop with
  | .off =>
    { c.setPattern { p with write := some 0 } with records := c.records ++ writeRecords n 0 blocks }
  | .internal => c.setPattern { p with loopBuffer := blocks }

/-! ### Checker (R111 to R113, R126) -/

/-- The checker restarts (R111). The register's contents are then of no account; the model keeps them (log
entry 2, a DESIGN CHOICE). -/
def Pattern.restart (p : Pattern) : Pattern :=
  { p with checker := .hunt, sinceRestart := 0, run := 0, winCompared := 0, winMismatches := 0 }

/-- A received bit in HUNT (R111). -/
def Pattern.huntBit (p : Pattern) (bit : Bool) : Pattern :=
  let n := satInc Config.huntBits p.sinceRestart
  { p with reg := shiftIn p.reg bit, sinceRestart := n,
           checker := if n = Config.huntBits then .check else .hunt }

/-- A received bit in CHECK (R111). -/
def Pattern.checkBit (p : Pattern) (bit : Bool) : Pattern :=
  let run := if bit = feedback p.reg then p.run + 1 else 0
  let q := { p with reg := shiftIn p.reg bit, run := run }
  if run = Config.lockRun then { q with checker := .locked, winCompared := 0, winMismatches := 0 } else q

/-- A compared bit's counts (R112, R126). -/
def Pattern.compareBit (p : Pattern) (bit : Bool) : Pattern :=
  let wrong := bit != feedback p.reg
  { p with
    reg := shiftIn p.reg (feedback p.reg)
    posCompared := p.posCompared + 1
    winCompared := p.winCompared + 1
    posMismatches := if wrong then satInc 65535 p.posMismatches else p.posMismatches
    winMismatches := if wrong then p.winMismatches + 1 else p.winMismatches
    running := { p.running with
      checked := satInc 4294967295 p.running.checked
      mismatches := if wrong then satInc 65535 p.running.mismatches else p.running.mismatches } }

/-- The window test after a compared bit, and whether lock is lost (R113). -/
def Pattern.testWindow (p : Pattern) : Pattern × Bool :=
  if Config.windowMismatchLimit ≤ p.winMismatches then
    ({ p.restart with running := { p.running with syncLosses := satInc 255 p.running.syncLosses } }, true)
  else if p.winCompared = Config.windowBits then
    ({ p with winCompared := 0, winMismatches := 0 }, false)
  else (p, false)

/-- Where the work in flight stands for the details of PATTERN_LOST: zone, scan position and sequence
number or 0 (R129). -/
def lostPlace (s : Sweep) : Nat × Nat × Nat :=
  match s.work with
  | some w =>
    (match w.job with
      | .offset _ z => z
      | .jog _ z => z
      | .visit _ => 0,
     match w.phase with
      | .read k => k
      | .move k => k
      | .settleAt k => k
      | _ => 0,
     w.seq.getD 0)
  | none => (0, 0, 0)

/-- A received bit in LOCKED (R112, R113), raising COUNT_SATURATED when the mismatch count reaches
65,535 and then PATTERN_LOST when lock is lost (R126, R129). -/
def lockedBit (bit : Bool) (c : Ctx) : Ctx :=
  let p := c.pattern.compareBit bit
  let c1 := c.setPattern p
  let c2 := if c.pattern.running.mismatches < 65535 ∧ p.running.mismatches = 65535 then
      raise (.countSaturated c1.ctrl.selHead p.running.checked) c1 else c1
  let t := p.testWindow
  let c3 := c2.setPattern t.1
  if t.2 then
    let place := lostPlace c3.sweep
    raise (.patternLost c3.ctrl.selHead place.1 place.2.1 place.2.2 p.posCompared) c3
  else c3

/-- A received bit (R111, R112). -/
def feedBit (c : Ctx) (bit : Bool) : Ctx :=
  match c.pattern.checker with
  | .hunt => c.setPattern (c.pattern.huntBit bit)
  | .check => c.setPattern (c.pattern.checkBit bit)
  | .locked => lockedBit bit c

/-- The bits of a READBACK block, first bit first (R110). -/
def feedBits (bits : List Bool) (c : Ctx) : Ctx := bits.foldl feedBit c

/-! ### Captures (R110, R114, R115) -/

/-- A read capture opens: counts at 0, the checker restarted (R110). -/
def openCapture (c : Ctx) : Ctx :=
  c.setPattern
    { c.pattern.restart with
      capture := some ⟨c.profile.readBlocks, 0, 0⟩, posCompared := 0, posMismatches := 0 }

/-- The position result when a capture with `received` blocks ends (R114). -/
def Pattern.result (p : Pattern) (received : Nat) : PosResult :=
  if received = 0 then .missing
  else if p.checker = .locked then .count p.posMismatches
  else .noLock

/-- The capture closes. -/
def closeCapture (c : Ctx) : Ctx := c.setPattern { c.pattern with capture := none }

/-- The write is no longer outstanding. -/
def endWrite (c : Ctx) : Ctx := c.setPattern { c.pattern with write := none }

/-- One block taken by an open capture (R110). -/
def takeBlock (c : Ctx) (bits : List Bool) : Ctx :=
  let c1 := feedBits bits c
  match c1.pattern.capture with
  | some k => c1.setPattern { c1.pattern with capture := some { k with received := k.received + 1 } }
  | none => c1

/-- An internal read takes the first blocks of the loop buffer (R115). -/
def takeLoop (c : Ctx) : Ctx :=
  (c.pattern.loopBuffer.take c.profile.readBlocks).foldl takeBlock c

/-- Blocks received by the open capture; 0 when none is open. -/
def Pattern.received (p : Pattern) : Nat :=
  match p.capture with
  | some k => k.received
  | none => 0

/-! ### Evaluating a scan (R121 to R123) -/

/-- Whether a position passes (R121). -/
def PosResult.passes (limit : Nat) : PosResult → Bool
  | .count n => n ≤ limit
  | .missing => false
  | .noLock => false

/-- The runs of passing positions from position `k` on, first and last position each; `start` is where
the run under way began (R121). -/
def runsFrom : Nat → Option Nat → List Bool → List (Nat × Nat)
  | _, none, [] => []
  | k, some s, [] => [(s, k - 1)]
  | k, none, true :: rest => runsFrom (k + 1) (some k) rest
  | k, none, false :: rest => runsFrom (k + 1) none rest
  | k, some s, true :: rest => runsFrom (k + 1) (some s) rest
  | k, some s, false :: rest => (s, k - 1) :: runsFrom (k + 1) none rest

/-- The sum x_first + x_last of a run, twice its midpoint. -/
def runSum (z : Zone) (r : Nat × Nat) : Int := z.scanOffset r.1 + z.scanOffset r.2

/-- Whether run `a` is chosen before run `b`: longer, else nearer 0, else lower (R122). -/
def runBefore (z : Zone) (a b : Nat × Nat) : Bool :=
  let la := a.2 - a.1
  let lb := b.2 - b.1
  let sa := runSum z a
  let sb := runSum z b
  lb < la || (la = lb && (sa.natAbs < sb.natAbs || (sa.natAbs = sb.natAbs && sa < sb)))

/-- The chosen run (R122). -/
def chooseRun (z : Zone) : List (Nat × Nat) → Option (Nat × Nat)
  | [] => none
  | r :: rest =>
    match chooseRun z rest with
    | some best => some (if runBefore z best r then best else r)
    | none => some r

/-- The jog part a scan gives (R123), with the stamps of the step. -/
def evaluateScan (p : Profile) (z : Zone) (results : List PosResult) (sweep : Nat)
    (seq : Option Nat) (temp : Option Int) : JogPart :=
  let prof : ScanProfile := ⟨z.scanStep, -(z.halfSpan : Int), results⟩
  let part (st : PartStatus) (cause : Option Cause) (jog : Option (Int × Nat)) : JogPart :=
    ⟨st, cause, jog, some prof, sweep, seq, temp⟩
  if results.all (· == .missing) then part .failed (some .noReadback) none
  else
    match chooseRun z (runsFrom 0 none (results.map (PosResult.passes p.passLimit))) with
    | none => part .failed (some .noPass) none
    | some r =>
      let jog := roundHalfAway (runSum z r) 2
      let win := (z.scanOffset r.2 - z.scanOffset r.1).toNat + z.scanStep
      if win < p.minWindow then part .suspect (some .narrowWindow) (some (jog, win))
      else if r.1 = 0 ∨ r.2 + 1 = results.length then part .suspect (some .edgeRun) (some (jog, win))
      else part .good none (some (jog, win))

end Sys2Proof.Machine
end

