-- ==== Sys2Proof/Machine/Engine.lean ====
section
/-! DEFINITION. The sweep engine (chapter 7): the end of a sweep, the step boundary, probes and the resume
stack, the start and restart of work, and what its phases do when they end (sections 5.3, 6.4). -/

namespace Sys2Proof.Machine

/-! ### Ends (R53, R54, R149) -/

/-- Work in flight is gone; its window, capture and write with it (R149 step 1). -/
def dropWork (c : Ctx) : Ctx :=
  let c1 := closeWindow (endWrite (closeCapture c))
  c1.setSweep { c1.sweep with work := none, phaseLimit := 0 }

/-- Steps 1 to 5 of R149. -/
def endCore (o : SweepOutcome) (c : Ctx) : Ctx :=
  let c1 := dropWork c
  let c2 := c1.setSweep { c1.sweep with probe := none, stack := [], plan := none,
                                        basePlan := .finished, holds := Holds.none }
  let c3 := if o = .complete then c2 else c2.setMap (mapProvisional OffsetPart.unclosed c2.bay.map)
  let c4 := c3.setSweep { c3.sweep with active := false, lastOutcome := some o }
  raise (.sweepDone c4.sweep.number o c4.sweep.measured c4.sweep.skipped c4.sweep.lost
    (suspectCount c4.bay.map c4.sweep.number)) c4

/-- The bay controller restores the reference head at the end of a sweep (R53). -/
def restoreRef (c : Ctx) : Ctx :=
  setLoopHead c.profile.refHead (c.setCtrl { c.ctrl with frozen := false, watch := none })

/-- Where a sweep's end puts the bay when it stays powered and out of FAULT (R53). -/
def placeAfterSweep (o : SweepOutcome) (c : Ctx) : Ctx :=
  let stay := c.setAcq { c.bay.acq with intent := .follow }
  let follow := c.setCtrl { c.ctrl with state := .follow }
  match o with
  | .complete => follow
  | .lostServo => stay
  | _ =>
    if c.ctrl.state = .acquire then stay
    else if c.bay.counter.resolved then follow
    else enterAcquire .follow c

/-- The sweep ends with COMPLETE, ABORTED, REF_FAILED, or LOST_SERVO by a fourth servo loss (R149). -/
def endSweep (o : SweepOutcome) (c : Ctx) : Ctx := placeAfterSweep o (restoreRef (endCore o c))

/-- The bay enters FAULT (R54): an active sweep ends with `o`; heads agree, targets absent, the command
is the clamped park_current. -/
def enterFault (o : SweepOutcome) (c : Ctx) : Ctx :=
  let c1 := if c.sweep.active then restoreRef (endCore o c) else c
  let c2 := headSelect c1.ctrl.loopHead (c1.setCtrl { c1.ctrl with frozen := false, watch := none })
  let c3 := (c2.setAcq { c2.bay.acq with run := 0 }).setCtrl
    { c2.ctrl with state := .fault, targetFinal := none, targetNow := none, prevErr := none, settle := 0 }
  setCommand (parkOutput c3.profile) c3

/-! ### Work in flight -/

/-- Work as it is when it is taken. -/
def Work.fresh (job : Job) (phase : Phase) : Work := ⟨job, phase, none, none, none, none, none, [], none⟩

def setWork (w : Work) (c : Ctx) : Ctx := c.setSweep { c.sweep with work := some w }

/-- The zone record a job reads; ref_zone for a visit (R98, R142). -/
def jobZone (job : Job) (c : Ctx) : Zone :=
  let z := match job with
    | .offset _ z => z
    | .jog _ z => z
    | .visit _ => c.profile.refZone
  (zoneGet c.bay.zones z).getD ⟨0, 0, 16⟩

/-- The head a job measures (R90, R98, R116). -/
def jobHead (job : Job) (p : Profile) : Nat :=
  match job with
  | .offset h _ => h
  | .jog h _ => h
  | .visit _ => p.driftHead

/-- SEEK begins at the centre of the job's zone track (R90, R117). -/
def beginSeek (w : Work) (c : Ctx) : Ctx :=
  seekTarget (jobZone w.job c).centre (setWork { w with phase := .seek } c)

/-- A phase that the phase-limit count counts starts it at 0 (R94, R116, R124, R134). No rule changes the
count when such a phase ends, so it stands until the next start, servo loss or sweep end. -/
def startLimit (c : Ctx) : Ctx := c.setSweep { c.sweep with phaseLimit := 0 }

/-- The outbound LOOP_SWITCH of a JOG step (R116): at once over when the loop follows that head already
and is seeded. -/
def beginLoopSwitch (w : Work) (c : Ctx) : Ctx :=
  let h := jobHead w.job c.profile
  if h = c.ctrl.loopHead ∧ c.ctrl.targetNow.isSome then beginSeek w (startLimit c)
  else startLimit (setWork { w with phase := .loopSwitchOut } (setLoopHead h c))

/-- Work begins, or begins again, with its first phase (R142, R147). -/
def beginWork (w : Work) (c : Ctx) : Ctx :=
  match w.job with
  | .jog _ _ => beginLoopSwitch w c
  | .offset _ _ => beginSeek w c
  | .visit _ => beginSeek w c

/-- A reference visit begins (R98). -/
def beginVisit (k : VisitKind) (c : Ctx) : Ctx := beginWork (Work.fresh (.visit k) .seek) c

/-- Work interrupted by a servo loss (R97, R125, R147): it keeps its sequence number and temperature and
nothing else. -/
def interruptWork (c : Ctx) : Ctx :=
  let c1 := closeWindow (endWrite (closeCapture c))
  c1.setSweep { c1.sweep with
    phaseLimit := 0
    work := match c1.sweep.work with
      | some w => some { Work.fresh w.job .interrupted with seq := w.seq, temp := w.temp }
      | none => none }

/-- A measuring step or visit takes its sequence number and temperature, unless it holds one (R76, R90,
R143, R163). -/
def stamp (w : Work) (c : Ctx) : Work × Ctx :=
  match w.seq with
  | some _ => (w, c)
  | none =>
    ({ w with seq := some c.sweep.seqNext, temp := c.thermal.temp },
     c.setSweep { c.sweep with seqNext := c.sweep.seqNext + 1 })

/-! ### Plans, probes and the resume stack (R139 to R141) -/

/-- A plan's next step and the plan after it, if it has steps left (R139, R141). -/
def nextOf (store : List StepRec) : Plan → Option (StepRec × Plan)
  | .base i =>
    match store[i]? with
    | some r => some (r, .base (i + 1))
    | none => none
  | .probe id (r :: rs) => some (r, .probe id rs)
  | .probe _ [] => none

/-- The base plan's standing after a plan is exhausted (R139, R141). -/
def finishPlan (p : Option Plan) (b : BasePlan) : BasePlan :=
  match p with
  | some (.base _) => .finished
  | _ => b

/-- A suspended plan is placed on the stack; a full stack first abandons its oldest plan (R140). -/
def pushPlan (p : Plan) (c : Ctx) : Ctx :=
  if c.sweep.stack.length < Config.stackDepth then
    c.setSweep { c.sweep with stack := p :: c.sweep.stack }
  else
    let bottom := c.sweep.stack.getLastD p
    let c1 := raise (.resumeLost bottom)
      (c.setSweep { c.sweep with stack := c.sweep.stack.dropLast, lost := satInc 65535 c.sweep.lost })
    c1.setSweep { c1.sweep with
      stack := p :: c1.sweep.stack
      basePlan := match bottom with
        | .base _ => .lost
        | .probe _ _ => c1.sweep.basePlan }

/-- Step 4 of the boundary: a pending probe becomes the current plan (R139). -/
def takeProbe (c : Ctx) : Ctx :=
  match c.sweep.probe with
  | none => c
  | some (id, steps) =>
    let c1 := match c.sweep.plan with
      | none => c
      | some p =>
        if (nextOf c.bay.store p).isSome then pushPlan p c
        else c.setSweep { c.sweep with basePlan := finishPlan (some p) c.sweep.basePlan }
    c1.setSweep { c1.sweep with plan := some (.probe id steps), probe := none }

/-- What step 5 of the boundary finds: the step to take, the current plan, the stack, and the base
plan's standing. -/
structure Chosen where
  step : Option StepRec
  plan : Option Plan
  stack : List Plan
  basePlan : BasePlan
deriving DecidableEq, Repr

/-- Step 5 of the boundary: the current plan's next step, or that of the first plan popped that has one
(R141). -/
def chooseStep (store : List StepRec) : List Plan → Option Plan → BasePlan → Chosen
  | [], cur, b =>
    match cur.bind (nextOf store) with
    | some (r, p) => ⟨some r, some p, [], b⟩
    | none => ⟨none, none, [], finishPlan cur b⟩
  | top :: rest, cur, b =>
    match cur.bind (nextOf store) with
    | some (r, p) => ⟨some r, some p, top :: rest, b⟩
    | none => chooseStep store rest (some top) (finishPlan cur b)

/-! ### The step boundary (R137 to R143) -/

/-- The sequence-counter check (R143). -/
def seqUsedUp (c : Ctx) : Bool := Config.sequenceEnd ≤ c.sweep.seqNext

/-- The bay enters HELD (R52, R137). -/
def holdBay (c : Ctx) : Ctx := c.setCtrl { c.ctrl with state := .held, watch := none }

/-- Steps 2 and 3 of the boundary; true when it goes on to step 4 (R137, R138, R143). -/
def boundaryStep3 (c : Ctx) : Ctx × Bool :=
  if c.meas.log.isEmpty then (beginVisit .opening c, false)
  else
    let c1 := testTriggers c
    if c1.meas.due then (beginVisit .onTrigger c1, false) else (c1, true)

/-- See `boundaryStep3`. -/
def boundaryStep23 (c : Ctx) : Ctx × Bool :=
  if seqUsedUp c then (endSweep .aborted c, false)
  else if c.sweep.holds.isEmpty then boundaryStep3 c
  else (holdBay c, false)

/-- A step that ends carries its result to the boundary's first step (R137). -/
def writeStep (head zone : Nat) (r : StepResult) (c : Ctx) : Ctx :=
  writeResult head zone r (c.setSweep { c.sweep with work := none })

/-- An OFFSET or JOG step is taken (R78, R96, R142); true when a new boundary begins at once, its write
already made. -/
def takeMeasuring (jog : Bool) (head zone : Nat) (c : Ctx) : Ctx × Bool :=
  let fail (cause : Cause) : StepResult :=
    if jog then .jog (failedJog cause c.sweep.number none none)
    else .offset (failedOffset cause c.sweep.number none none)
  if (mapGet c.bay.map head zone).accepted then
    (c.setSweep { c.sweep with skipped := satInc 65535 c.sweep.skipped, lastStep := some .skipped }, true)
  else if (zoneGet c.bay.zones zone).isNone then (writeStep head zone (fail .noZone) c, true)
  else if c.profile.headCount ≤ head then (writeStep head zone (fail .noHead) c, true)
  else if jog then (beginWork (Work.fresh (.jog head zone) .loopSwitchOut) c, false)
  else if head = c.profile.refHead then
    let s := stamp (Work.fresh (.offset head zone) .seek) c
    (writeStep head zone (.offset (referenceOffset c.sweep.number s.1.seq s.1.temp)) s.2, true)
  else (beginWork (Work.fresh (.offset head zone) .seek) c, false)

/-- A step is taken (R142). -/
def takeStep (r : StepRec) (c : Ctx) : Ctx × Bool :=
  match r.kind with
  | .ref => (beginVisit .planned c, false)
  | .offset => takeMeasuring false r.head r.zone c
  | .jog => takeMeasuring true r.head r.zone c

/-- Steps 4 and 5 of the boundary, and the boundaries that begin at once after a step that does not
measure; `fuel` bounds how many steps are taken at the one event. -/
def boundaryStep45 : Nat → Ctx → Ctx
  | 0, c => c
  | fuel + 1, c =>
    let c1 := takeProbe c
    let k := chooseStep c1.bay.store c1.sweep.stack c1.sweep.plan c1.sweep.basePlan
    let c2 := c1.setSweep { c1.sweep with plan := k.plan, stack := k.stack, basePlan := k.basePlan }
    match k.step with
    | some r =>
      let t := takeStep r c2
      if t.2 then
        let u := boundaryStep23 t.1
        if u.2 then boundaryStep45 fuel u.1 else u.1
      else t.1
    | none =>
      if anyProvisional c2.bay.map then beginVisit .closing c2 else endSweep .complete c2

/-- The steps a plan can still give. -/
def planSize : Plan → Nat
  | .base _ => 0
  | .probe _ steps => steps.length

/-- A bound on the steps one event can take: the store's, the probes', and one for the end. -/
def boundaryFuel (c : Ctx) : Nat :=
  c.bay.store.length * (c.sweep.stack.length + 1) +
    (match c.sweep.plan with
      | some p => planSize p
      | none => 0) +
    (match c.sweep.probe with
      | some (_, steps) => steps.length
      | none => 0) +
    (c.sweep.stack.map planSize).sum + 1

/-- The boundary from its step 4 (R138). -/
def boundaryFrom4 (c : Ctx) : Ctx := boundaryStep45 (boundaryFuel c) c

/-- The boundary from its step 3, where it resumes after a hold (R146). -/
def boundaryFrom3 (c : Ctx) : Ctx :=
  let t := boundaryStep3 c
  if t.2 then boundaryFrom4 t.1 else t.1

/-- The boundary from its step 2 (R137, R138, R147). -/
def boundary (c : Ctx) : Ctx :=
  let t := boundaryStep23 c
  if t.2 then boundaryFrom4 t.1 else t.1

/-- A plan step ends with a result: it is written, and the boundary goes on (R137). -/
def stepEnds (head zone : Nat) (r : StepResult) (c : Ctx) : Ctx := boundary (writeStep head zone r c)

/-- The engine after an inline visit: the sequence-counter check, then step 4 (R138, R143). -/
def afterInline (c : Ctx) : Ctx := if seqUsedUp c then endSweep .aborted c else boundaryFrom4 c

/-- A planned visit that ended counts as a measured step (R142). -/
def countPlanned (k : VisitKind) (c : Ctx) : Ctx :=
  if k = .planned then
    c.setSweep { c.sweep with measured := satInc 65535 c.sweep.measured, lastStep := some .written }
  else c

/-- Where the engine goes on after a visit that did not end the sweep; `ok` when it succeeded. -/
def afterVisit (k : VisitKind) (ok : Bool) (c : Ctx) : Ctx :=
  match k with
  | .opening => if ok then boundaryFrom4 c else boundary c
  | .onTrigger => afterInline c
  | .closing => if ok then endSweep .complete c else boundary c
  | .planned => boundary c

/-- A visit ends, with its record when it succeeded (R98, R100, R104, R142). -/
def visitEnds (k : VisitKind) (r : Option RefRecord) (c : Ctx) : Ctx :=
  let c0 := c.setSweep { c.sweep with work := none }
  match r with
  | some r => afterVisit k true (countPlanned k (visitSucceeds r c0))
  | none =>
    let c1 := countPlanned k (c0.setMeas { c0.meas with failedVisits := c0.meas.failedVisits + 1 })
    if Config.failedVisitLimit ≤ c1.meas.failedVisits then endSweep .refFailed c1
    else afterVisit k false c1

/-! ### Offset measurements (R90 to R95) -/

/-- A measurement fails with a cause (R90, R91, R95). -/
def measurementFails (w : Work) (cause : Cause) (c : Ctx) : Ctx :=
  match w.job with
  | .offset h z => stepEnds h z (.offset (failedOffset cause c.sweep.number w.seq w.temp)) c
  | .visit k => visitEnds k none c
  | .jog h z => stepEnds h z (.jog (failedJog cause c.sweep.number w.seq w.temp)) c

/-- A measurement whose windows both completed forms its result (R95, R98). -/
def measurementForms (w : Work) (ref head : WindowResult) (c : Ctx) : Ctx :=
  match w.job with
  | .visit k =>
    if (findingOf c.profile ref head).isNone then
      visitEnds k (some ⟨w.seq.getD 0, offsetOf ref head, w.temp⟩) c
    else visitEnds k none c
  | .offset h z =>
    stepEnds h z (.offset (measuredOffset c.profile ref head c.sweep.number w.seq w.temp)) c
  | .jog _ _ => c

/-- RETURN ends: the command is free and the measurement forms its result (R94, R95). -/
def returnEnds (w : Work) (c : Ctx) : Ctx :=
  let c1 := unfreeze c
  match w.cause, w.refResult, w.headResult with
  | some cause, _, _ => measurementFails w cause c1
  | none, some a, some b => measurementForms w a b c1
  | none, _, _ => measurementFails w .noSamples c1

/-- REF_AVG begins (R91). -/
def beginRefAvg (w : Work) (c : Ctx) : Ctx :=
  openWindow c.profile.refHead (setWork { w with phase := .refAvg } c)

/-- SWITCH begins: the command is frozen, then the measured head is selected (R92). -/
def beginSwitch (w : Work) (c : Ctx) : Ctx :=
  headSelect (jobHead w.job c.profile) (freeze (setWork { w with phase := .switch } c))

/-- HEAD_AVG begins (R93). -/
def beginHeadAvg (w : Work) (c : Ctx) : Ctx :=
  openWindow (jobHead w.job c.profile) (setWork { w with phase := .headAvg } c)

/-- RETURN begins (R94). -/
def beginReturn (w : Work) (c : Ctx) : Ctx :=
  startLimit (setWork { w with phase := .retHead } (headSelect c.profile.refHead c))

/-! ### JOG steps (R116 to R124) -/

/-- The return LOOP_SWITCH begins with the step's result (R124). -/
def beginReturnSwitch (w : Work) (x : JogPart) (c : Ctx) : Ctx :=
  let c1 := nameTarget (jobZone w.job c).centre (endWrite (closeCapture c))
  if c1.profile.refHead = c1.ctrl.loopHead ∧ c1.ctrl.targetNow.isSome then
    match w.job with
    | .jog h z => stepEnds h z (.jog x) (startLimit c1)
    | _ => c1
  else
    startLimit (setWork { w with phase := .loopSwitchBack, formed := some x }
      (setLoopHead c1.profile.refHead c1))

/-- MOVE of position `k` begins (R119). -/
def beginMove (w : Work) (k : Nat) (c : Ctx) : Ctx :=
  let z := jobZone w.job c
  seekTarget (z.centre + z.scanOffset k) (setWork { w with phase := .move k } c)

/-- WRITE_PASS begins (R118); with INTERNAL it is over at once. -/
def beginWritePass (w : Work) (c : Ctx) : Ctx :=
  let c1 := startPass c
  match c1.profile.patternLoop with
  | .off => setWork { w with phase := .writePass } c1
  | .internal => beginMove w 0 c1

/-- A JOG step fails without a scan profile: its part is formed, the results of earlier positions are
dropped, and the loop goes back (R117 to R119). -/
def jogFails (w : Work) (cause : Cause) (c : Ctx) : Ctx :=
  beginReturnSwitch { w with results := [] } (failedJog cause c.sweep.number w.seq w.temp) c

/-- The capture of position `k` ends: its result is stored, and the next position or the evaluation
follows (R114, R120). -/
def readEnds (w : Work) (k : Nat) (c : Ctx) : Ctx :=
  let z := jobZone w.job c
  let results := w.results ++ [c.pattern.result c.pattern.received]
  let c1 := closeCapture c
  if k + 1 < z.positions then beginMove { w with results := results } (k + 1) c1
  else
    beginReturnSwitch { w with results := results }
      (evaluateScan c.profile z results c.sweep.number w.seq w.temp) c1

/-- READ of position `k` begins (R110, R115, R120). -/
def beginRead (w : Work) (k : Nat) (c : Ctx) : Ctx :=
  let c1 := openCapture (setWork { w with phase := .read k } c)
  match c1.profile.patternLoop with
  | .off => c1.send (.capture c1.profile.readBlocks)
  | .internal => readEnds { w with phase := .read k } k (takeLoop c1)

/-- Acquisition has completed into SWEEP: interrupted work begins again, and with none in flight the
boundary runs from step 2 (R136, R147). -/
def engineResumes (c : Ctx) : Ctx :=
  match c.sweep.work with
  | some w => beginWork w c
  | none => boundary c

/-! ### Hold causes that leave the set (R145, R146) -/

/-- A HELD bay whose set has become empty enters SWEEP, and the boundary resumes at step 3 (R146). -/
def resumeIfFree (c : Ctx) : Ctx :=
  if c.sweep.holds.isEmpty ∧ c.ctrl.state = .held then
    boundaryFrom3 (c.setCtrl { c.ctrl with state := .sweep })
  else c

/-- A cause leaves the set, while the sweep is active (R145, R146). -/
def removeCause (cause : HoldCause) (c : Ctx) : Ctx :=
  if c.sweep.active then
    resumeIfFree (c.setSweep { c.sweep with holds := c.sweep.holds.put cause false })
  else c

end Sys2Proof.Machine
end

