-- ==== Sys2Proof/Machine/Thermal.lean ====
section
/-! DEFINITION. The thermal supervisor and the timers of a bay (chapter 8, R35, R153): temperature, staleness,
hold and cutoff levels, the fault line, and what a tick does to each timer. -/

namespace Sys2Proof.Machine

/-- Whether the cutoff condition is present (R152). -/
def cutoffPresent (p : Profile) (t : Thermal) : Bool :=
  t.cutoff || (t.line && p.faultLineAction == .cutoff)

/-- The cutoff condition has risen: the bay enters FAULT, unless it is there (R54, R160). -/
def cutoffRises (c : Ctx) : Ctx :=
  match c.ctrl.state with
  | .fault => c
  | .offline => c
  | _ => enterFault .faulted c

/-- The hold level is evaluated against the temperature (R156). -/
def evalHold (c : Ctx) : Ctx :=
  match c.thermal.temp with
  | none => c
  | some t =>
    let p := c.profile
    if c.thermal.hold then
      if t < p.holdTemp - p.hyst then
        let c1 := raise (.tempClear t (p.holdTemp - p.hyst)) c
        removeCause .thermal (c1.setThermal { c1.thermal with hold := false })
      else c
    else if p.holdTemp ≤ t then
      let c1 := raise (.tempHold t p.holdTemp) c
      addCause .thermal (c1.setThermal { c1.thermal with hold := true })
    else c

/-- The cutoff level is evaluated against the temperature (R157). -/
def evalCutoff (c : Ctx) : Ctx :=
  match c.thermal.temp with
  | none => c
  | some t =>
    let p := c.profile
    if c.thermal.cutoff then
      if t < p.cutoffTemp - p.hyst then c.setThermal { c.thermal with cutoff := false } else c
    else if p.cutoffTemp ≤ t then
      let c1 := raise (.tempCutoff t p.cutoffTemp c.ctrl.state) c
      c1.setThermal { c1.thermal with cutoff := true }
    else c

/-- The condition before and after a change: a rise takes the bay to FAULT (R160). -/
def afterCutoff (before : Bool) (c : Ctx) : Ctx :=
  if !before && cutoffPresent c.profile c.thermal then cutoffRises c else c

/-- A TEMP record of a powered bay (R154). -/
def takeTemp (t : Int) (c : Ctx) : Ctx :=
  let wasStale := c.thermal.stale
  let c1 := c.setThermal
    { c.thermal with temp := some t, staleTimer := 0, staleRunning := true, stale := false }
  let c2 := if wasStale then removeCause .stale c1 else c1
  let c3 := evalHold c2
  afterCutoff (cutoffPresent c3.profile c3.thermal) (evalCutoff c3)

/-- A FAULT record of a powered bay (R158, R159). -/
def takeFault (active : Bool) (c : Ctx) : Ctx :=
  if active = c.thermal.line then c
  else
    let before := cutoffPresent c.profile c.thermal
    let c1 := c.setThermal { c.thermal with line := active }
    if active then
      let c2 := raise (.faultLine c1.profile.faultLineAction c1.ctrl.state) c1
      match c2.profile.faultLineAction with
      | .none => c2
      | .hold => addCause .faultLine c2
      | .cutoff => afterCutoff before c2
    else
      match c1.profile.faultLineAction with
      | .none => c1
      | .hold => removeCause .faultLine c1
      | .cutoff => c1

/-- The levels and the condition after a profile change (R162). `before` is whether the condition was
present under the old profile. -/
def reevaluateThermal (before : Bool) (c : Ctx) : Ctx := afterCutoff before (evalCutoff (evalHold c))

/-! ### Timers (R153) -/

/-- The acquisition timer expires (R35). -/
def acquireExpires (c : Ctx) : Ctx :=
  enterFault .lostServo
    (raise (.acquireTimeout c.ctrl.selHead c.bay.acq.intent c.bay.acq.run c.bay.counter.resolved) c)

/-- Whether the next tick expires the acquisition timer (R35). -/
def acquireDue (c : Ctx) : Bool :=
  c.ctrl.state == .acquire && decide (c.profile.acqTimeoutMs ≤ c.bay.acq.elapsed + 1)

/-- A tick reaches the acquisition timer (R35). -/
def tickAcquire (c : Ctx) : Ctx :=
  match c.ctrl.state with
  | .acquire =>
    let due := acquireDue c
    let c1 := c.setAcq { c.bay.acq with elapsed := c.bay.acq.elapsed + 1 }
    if due then acquireExpires c1 else c1
  | _ => c

/-- The temperature becomes stale (R155). -/
def becomeStale (c : Ctx) : Ctx :=
  let c1 := c.setThermal
    { c.thermal with staleTimer := Config.staleLimit, staleRunning := false, stale := true }
  addCause .stale (raise (.sensorStale c1.thermal.temp) c1)

/-- Whether the next tick makes the temperature stale (R155). -/
def staleDue (c : Ctx) : Bool :=
  c.thermal.staleRunning && decide (Config.staleLimit ≤ c.thermal.staleTimer + 1)

/-- A tick reaches the staleness timer (R155). -/
def tickStale (c : Ctx) : Ctx :=
  if staleDue c then becomeStale c
  else if c.thermal.staleRunning then
    c.setThermal { c.thermal with staleTimer := c.thermal.staleTimer + 1 }
  else c

/-- A tick reaches the elapsed time of the revisit state (R101). -/
def tickRevisit (c : Ctx) : Ctx :=
  if c.sweep.active then
    c.setMeas { c.meas with elapsed := satInc Config.revisitElapsedMax c.meas.elapsed }
  else c

/-- A tick reaches one timer of a bay (R153). -/
def tickTimer (k : TimerKind) (c : Ctx) : Ctx :=
  match k with
  | .acquisition => tickAcquire c
  | .staleness => tickStale c
  | .revisit => tickRevisit c

end Sys2Proof.Machine
end

