-- ==== Sys2Proof/Machine/Control.lean ====
section
/-! DEFINITION. The requests to a bay of chapter 3 and chapter 7 as the bay sees them: BAY_POWER, MOVE, STOP,
CLEAR, ZONE_SET, PLAN_LOAD, PROBE and the SWEEP requests. Each answers the bay at work after it and the
reply, status first. -/

namespace Sys2Proof.Machine

/-- A reply: its status and the body after it (R177). -/
abbrev Reply := Status × List Byte

/-- The one-byte body that names a bay state (R44). -/
def stateByte (c : Ctx) : List Byte := byte1 c.ctrl.state.code

/-! ### BAY_POWER (R45, R46) -/

/-- The pattern block at BAY_POWER (R106). The table gives the checker HUNT and all counts 0 and says nothing
of its register: the model keeps the register's bits (log entry 2, a DESIGN CHOICE). -/
def Pattern.powered (p : Pattern) : Pattern :=
  { p.restart with write := none, capture := none, loopBuffer := [], posCompared := 0,
                   posMismatches := 0 }

/-- The thermal supervisor at BAY_POWER; its timer runs when the bay is on (R152). -/
def Thermal.powered (t : Thermal) (on : Bool) : Thermal := ⟨none, 0, on, false, false, false, false, t.lastRef⟩

/-- The values every BAY_POWER gives the blocks beside the bay controller: counter (R10), wedge queue
(R26), acquisition (R32, R37), window (R86), pattern (R106) and thermal supervisor (R152). -/
def powerBlocks (on : Bool) (c : Ctx) : Ctx :=
  (((((c.setCounter Counter.reset).setIntake Intake.reset).setAcq Acq.reset).setMeas
    { c.meas with window := none }).setPattern c.pattern.powered).setThermal (c.thermal.powered on)

/-- BAY_POWER on of an OFFLINE bay (R45). -/
def powerOnBay (c : Ctx) : Ctx :=
  let c1 := (c.send (.power true)).send (.head c.ctrl.selHead)
  let c2 := (powerBlocks true c1).setCtrl
    { Ctrl.reset with state := .idle, loopHead := c.ctrl.loopHead, selHead := c.ctrl.selHead }
  setCommand (restOutput c2.profile 0) c2

/-- The heads at a POWERED_OFF end: ref_head without a head select (R53). -/
def quietRestore (c : Ctx) : Ctx :=
  c.setCtrl { c.ctrl with loopHead := c.profile.refHead, selHead := c.profile.refHead }

/-- BAY_POWER off of a powered bay (R46). -/
def powerOffBay (c : Ctx) : Ctx :=
  let c1 := if c.sweep.active then quietRestore (endCore .poweredOff c) else c
  let c2 := setCommand 0 c1
  let c3 := c2.send (.power false)
  (powerBlocks false c3).setCtrl
    { Ctrl.reset with loopHead := c3.ctrl.loopHead, selHead := c3.ctrl.loopHead }

/-- BAY_POWER on (R45). -/
def bayPowerOn (c : Ctx) : Ctx × Reply :=
  let c1 := if c.ctrl.state = .offline then powerOnBay c else c
  (c1, .ok, stateByte c1)

/-- BAY_POWER off (R46). -/
def bayPowerOff (c : Ctx) : Ctx × Reply :=
  let c1 := if c.ctrl.state = .offline then c else powerOffBay c
  (c1, .ok, stateByte c1)

/-- BAY_POWER with its option; any other option is BAD_ARG (R44). -/
def bayPower (option : Nat) (c : Ctx) : Ctx × Reply :=
  if option = 0 then bayPowerOff c else if option = 1 then bayPowerOn c else (c, .badArg, [])

/-! ### MOVE (R47, R48) -/

/-- MOVE's target (R47). -/
def moveTarget (track : Nat) (offset : Int) : Int := (track : Int) * 4096 + offset

/-- The checks of R47, and the range of the offset (log entry 18). -/
def moveFits (p : Profile) (head track : Nat) (offset : Int) : Bool :=
  decide (head < p.headCount) && decide (track ≤ Config.trackMax) && decide (-32767 ≤ offset) &&
    decide (Config.positionMin ≤ moveTarget track offset) &&
    decide (moveTarget track offset ≤ Config.positionMax)

/-- MOVE in IDLE (R48). -/
def moveIdle (head : Nat) (target : Int) (c : Ctx) : Ctx :=
  let c1 := headSelect head c
  enterAcquire .follow (c1.setCtrl
    { c1.ctrl with loopHead := head, targetFinal := some target, targetNow := none, prevErr := none })

/-- MOVE in ACQUIRE with intent FOLLOW (R48). -/
def moveAcquire (head : Nat) (target : Int) (c : Ctx) : Ctx :=
  let c1 := c.setCtrl { c.ctrl with targetFinal := some target, settle := 0 }
  if head = c1.ctrl.selHead then c1 else setLoopHead head c1

/-- MOVE in FOLLOW (R48). -/
def moveFollow (head : Nat) (target : Int) (c : Ctx) : Ctx :=
  setLoopHead head (c.setCtrl { c.ctrl with targetFinal := some target, settle := 0 })

/-- MOVE (R47, R48). -/
def moveBay (head track : Nat) (offset : Int) (c : Ctx) : Ctx × Reply :=
  if moveFits c.profile head track offset then
    let target := moveTarget track offset
    let ok (c1 : Ctx) : Ctx × Reply := (c1, .ok, stateByte c1)
    match c.ctrl.state, c.bay.acq.intent with
    | .idle, _ => ok (moveIdle head target c)
    | .acquire, .follow => ok (moveAcquire head target c)
    | .follow, _ => ok (moveFollow head target c)
    | _, _ => (c, .busy, stateByte c)
  else (c, .badArg, stateByte c)

/-! ### STOP and CLEAR (R49, R50) -/

/-- STOP (R49). -/
def stopBay (c : Ctx) : Ctx × Reply :=
  let go (c1 : Ctx) : Ctx × Reply := (c1, .ok, stateByte c1)
  match c.ctrl.state, c.bay.acq.intent with
  | .acquire, .follow => go (enterIdle c)
  | .follow, _ => go (enterIdle c)
  | .idle, _ => go c
  | _, _ => (c, .busy, stateByte c)

/-- CLEAR (R50). -/
def clearBay (c : Ctx) : Ctx × Reply :=
  match c.ctrl.state with
  | .fault =>
    if cutoffPresent c.profile c.thermal then (c, .busy, stateByte c)
    else
      let c1 := enterIdle c
      (c1, .ok, stateByte c1)
  | _ => (c, .ok, stateByte c)

/-! ### ZONE_SET (R131) -/

/-- The zone that a define stores (R131). -/
def zoneClamped (track scanHalf scanStep : Nat) : Zone :=
  let step := if scanStep < 16 then 16 else if 4096 < scanStep then 4096 else scanStep
  let half := if 16384 < scanHalf then 16384 else scanHalf
  ⟨track, if 16 < half / step then 16 * step else half, step⟩

/-- ZONE_SET's reply: the zone, its record as stored or undefined, and K, 0 for an undefined zone (R131,
R185; log entry 12). -/
def zoneReply (zone : Nat) (r : Option Zone) : List Byte :=
  byte1 zone ++
    match r with
    | some z => 1 :: (byte4 z.track ++ byte2 z.scanHalf ++ byte2 z.scanStep ++ byte1 z.positions)
    | none => 0 :: (byte4 0 ++ byte2 0 ++ byte2 0 ++ byte1 0)

/-- ZONE_SET with define, past check 1 of R131. -/
def zoneDefine (zone track scanHalf scanStep : Nat) (c : Ctx) : Ctx × Reply :=
  if c.sweep.active then (c, .busy, [])
  else
    let z := zoneClamped track scanHalf scanStep
    (c.setZones (zonePut c.bay.zones zone (some z)),
      if z = ⟨track, scanHalf, scanStep⟩ then .ok else .adjusted, zoneReply zone (some z))

/-- ZONE_SET with undefine, past check 1 of R131. -/
def zoneUndefine (zone : Nat) (c : Ctx) : Ctx × Reply :=
  if c.sweep.active then (c, .busy, [])
  else (c.setZones (zonePut c.bay.zones zone none), .ok, zoneReply zone none)

/-- ZONE_SET (R131). -/
def zoneSet (zone : Nat) (option : ZoneOption) (c : Ctx) : Ctx × Reply :=
  if Config.zones ≤ zone then (c, .badArg, [])
  else
    match option with
    | .define track scanHalf scanStep =>
      if Config.trackMax < track then (c, .badArg, []) else zoneDefine zone track scanHalf scanStep c
    | .undefine => zoneUndefine zone c
    | .other => (c, .badArg, [])

/-! ### Step lists (R133, R144) -/

/-- A step record in range, if it is (R133, R144). -/
def stepOf (r : RawStep) : Option StepRec :=
  match StepKind.ofCode r.kind with
  | some k => if r.head < Config.heads ∧ r.zone < Config.zones then some ⟨k, r.head, r.zone⟩ else none
  | none => none

/-- Step records all in range, if they are. -/
def stepsOf : List RawStep → Option (List StepRec)
  | [] => some []
  | r :: rest =>
    match stepOf r, stepsOf rest with
    | some s, some l => some (s :: l)
    | _, _ => none

/-- PLAN_LOAD (R133). -/
def planLoad (option : Nat) (raw : List RawStep) (c : Ctx) : Ctx × Reply :=
  match stepsOf raw with
  | none => (c, .badArg, [])
  | some steps =>
    if 1 < option then (c, .badArg, [])
    else if option = 0 ∧ c.sweep.active then (c, .busy, [])
    else
      let store := if option = 0 then steps else c.bay.store ++ steps
      if Config.planSteps < store.length then (c, .full, [])
      else (c.setStore store, .ok, byte1 store.length)

/-- PROBE (R144). -/
def probeBay (id : Nat) (raw : List RawStep) (c : Ctx) : Ctx × Reply :=
  match stepsOf raw with
  | none => (c, .badArg, [])
  | some steps =>
    if steps.isEmpty ∨ Config.probeSteps < steps.length then (c, .badArg, [])
    else if c.sweep.active ∧ c.sweep.probe.isNone then
      (c.setSweep { c.sweep with probe := some (id, steps) }, .ok, [])
    else (c, .busy, [])

/-! ### Sweeps (R51, R135, R136, R146, R148) -/

/-- The second check of R135. -/
def sweepFits (c : Ctx) : Bool :=
  !c.bay.store.isEmpty && (zoneGet c.bay.zones c.profile.refZone).isSome &&
    c.profile.refHead != c.profile.driftHead && decide (c.profile.refHead < c.profile.headCount) &&
    decide (c.profile.driftHead < c.profile.headCount)

/-- The next sweep number (R136). -/
def nextSweepNumber (n : Nat) : Nat := if 65535 ≤ n then 1 else n + 1

/-- The thermal hold causes present (R145, R161). -/
def thermalCauses (p : Profile) (t : Thermal) : Holds :=
  ⟨false, t.hold, t.stale, t.line && p.faultLineAction == .hold, false⟩

/-- Steps 1 to 5 of R136: the sweep engine, the reference log and the revisit state as a sweep starts. -/
def startEngine (c : Ctx) : Ctx :=
  let s : Sweep := { c.sweep with
    number := nextSweepNumber c.sweep.number, active := true, seqNext := 0, retry := 0, measured := 0,
    skipped := 0, lost := 0, lastStep := none, plan := some (.base 0), basePlan := .standing,
    stack := [], probe := none, work := none, phaseLimit := 0,
    holds := thermalCauses c.profile c.thermal }
  ((c.setSweep s).setMeas ⟨none, [], 0, 0, 0, false, false, false⟩).setThermal
    { c.thermal with lastRef := none }

/-- The centre of the reference zone's track. -/
def refCentre (c : Ctx) : Int := (jobZone (.visit .opening) c).centre

/-- SWEEP_START in IDLE (R51). -/
def startIdle (c : Ctx) : Ctx :=
  let c1 := setLoopHead c.profile.refHead c
  enterAcquire .sweep (c1.setCtrl
    { c1.ctrl with targetFinal := some (refCentre c), targetNow := none, prevErr := none })

/-- SWEEP_START in FOLLOW: the first step boundary runs at once (R51, R136). -/
def startFollow (c : Ctx) : Ctx :=
  let c1 := setLoopHead c.profile.refHead c
  boundary (c1.setCtrl { c1.ctrl with state := .sweep })

/-- SWEEP_START (R135, R136). -/
def sweepStart (c : Ctx) : Ctx × Reply :=
  let go (c1 : Ctx) : Ctx × Reply := (c1, .ok, byte2 c1.sweep.number ++ stateByte c1)
  match c.ctrl.state with
  | .idle => if sweepFits c then go (startIdle (startEngine c)) else (c, .badArg, [])
  | .follow => if sweepFits c then go (startFollow (startEngine c)) else (c, .badArg, [])
  | _ => (c, .busy, [])

/-- SWEEP_HOLD (R146). -/
def sweepHold (c : Ctx) : Ctx × Reply :=
  if c.sweep.active then
    let c1 := addCause .host c
    (c1, .ok, c1.sweep.holds.bytes)
  else (c, .busy, [])

/-- SWEEP_RESUME (R146). The set in the reply is the one the removal left, the state the one after the
request (log entry 17). -/
def sweepResume (c : Ctx) : Ctx × Reply :=
  if c.sweep.active then
    let holds := (c.sweep.holds.put .host false).put .event false
    let c1 := resumeIfFree (c.setSweep { c.sweep with holds := holds })
    (c1, .ok, holds.bytes ++ stateByte c1)
  else (c, .busy, [])

/-- SWEEP_ABORT (R148). -/
def sweepAbort (c : Ctx) : Ctx × Reply :=
  if c.sweep.active then
    let c1 := endSweep .aborted c
    (c1, .ok, stateByte c1)
  else (c, .busy, [])

end Sys2Proof.Machine
end

