-- ==== Sys2Proof/Machine/ProfileCmd.lean ====
section
/-! DEFINITION. BAY_PROFILE (R182, R183): the 37 parameters by id, their ranges and clamping, and the
reply that reads the profile back. -/

namespace Sys2Proof.Machine

/-! ### Parameters by id (section 10.6) -/

def LossMode.code : LossMode → Nat
  | .normal => 0 | .extended => 1
def LossOutput.code : LossOutput → Nat
  | .holdLast => 0 | .zero => 1
def PatternLoop.code : PatternLoop → Nat
  | .off => 0 | .internal => 1
def RestOutput.code : RestOutput → Nat
  | .holdLast => 0 | .zero => 1 | .park => 2

/-- The enumerated ids and the values their sets hold (R182, R184); none for a numeric id. queue_depth is
read and sent as the depth itself, 32 or 64, and every other enumeration as its place in the parameter
table (log entry 32, DEDUCED from R182). -/
def enumValues : Nat → Option (List Int)
  | 4 => some [32, 64]
  | 5 => some [0, 1]
  | 6 => some [0, 1]
  | 30 => some [0, 1]
  | 34 => some [0, 1, 2]
  | 35 => some [0, 1, 2]
  | _ => none

/-- The range of a numeric id. cutoff_temp is not here: its range rests on hold_temp (R183). -/
def numericRange : Nat → Option (Int × Int)
  | 0 => some (1, 16)
  | 1 => some (0, 15)
  | 2 => some (0, 15)
  | 3 => some (0, 23)
  | 7 => some (4, 255)
  | 8 => some (100, 60000)
  | 9 => some (16, 4095)
  | 10 => some (1, 32767)
  | 11 => some (-32767, 32767)
  | 12 => some (0, 1023)
  | 13 => some (0, 1023)
  | 14 => some (64, 65535)
  | 15 => some (16, 4096)
  | 16 => some (1, 255)
  | 17 => some (100, 65535)
  | 18 => some (1, 64)
  | 19 => some (4, 256)
  | 20 => some (16, 65535)
  | 21 => some (0, 8190)
  | 22 => some (1, 64)
  | 23 => some (1000, 600000)
  | 24 => some (1, 80)
  | 25 => some (1, 32767)
  | 26 => some (4, 64)
  | 27 => some (1, 16)
  | 28 => some (0, 255)
  | 29 => some (0, 16384)
  | 31 => some (-160, 596)
  | 32 => some (1, 40)
  | 36 => some (-32767, 32767)
  | _ => none

/-- The profile with an id's value stored; an enumeration by its code, queue_depth as itself (log entry
32). -/
def Profile.store (p : Profile) (id : Nat) (v : Int) : Profile :=
  let n := v.toNat
  match id with
  | 0 => { p with headCount := n }
  | 1 => { p with refHead := n }
  | 2 => { p with driftHead := n }
  | 3 => { p with refZone := n }
  | 4 => { p with queueDepth := n }
  | 5 => { p with lossMode := if n = 0 then .normal else .extended }
  | 6 => { p with lossOutput := if n = 0 then .holdLast else .zero }
  | 7 => { p with acqCount := n }
  | 8 => { p with acqTimeoutMs := n }
  | 9 => { p with minSum := n }
  | 10 => { p with currentLimit := n }
  | 11 => { p with bias := v }
  | 12 => { p with kp := n }
  | 13 => { p with kd := n }
  | 14 => { p with slewPu := n }
  | 15 => { p with onTrackWindow := n }
  | 16 => { p with settleCount := n }
  | 17 => { p with settleTimeout := n }
  | 18 => { p with headSwitchWedges := n }
  | 19 => { p with avgCount := n }
  | 20 => { p with spreadLimit := n }
  | 21 => { p with amplitudeFloor := n }
  | 22 => { p with revisitCount := n }
  | 23 => { p with revisitMs := n }
  | 24 => { p with revisitDelta := n }
  | 25 => { p with driftLimit := n }
  | 26 => { p with writeBlocks := n }
  | 27 => { p with readBlocks := n }
  | 28 => { p with passLimit := n }
  | 29 => { p with minWindow := n }
  | 30 => { p with patternLoop := if n = 0 then .off else .internal }
  | 31 => { p with holdTemp := v }
  | 32 => { p with hyst := n }
  | 33 => { p with cutoffTemp := v }
  | 34 => { p with faultLineAction := if n = 0 then .none else if n = 1 then .hold else .cutoff }
  | 35 => { p with restOutput := if n = 0 then .holdLast else if n = 1 then .zero else .park }
  | 36 => { p with parkCurrent := v }
  | _ => p

/-- The stored values in id order, queue_depth as 32 or 64 (log entry 32). -/
def Profile.values (p : Profile) : List Int :=
  ([p.headCount, p.refHead, p.driftHead, p.refZone, p.queueDepth, p.lossMode.code, p.lossOutput.code, p.acqCount] : List Int) ++
    ([p.acqTimeoutMs, p.minSum, p.currentLimit, p.bias, p.kp, p.kd, p.slewPu, p.onTrackWindow] : List Int) ++
    ([p.settleCount, p.settleTimeout, p.headSwitchWedges, p.avgCount, p.spreadLimit, p.amplitudeFloor, p.revisitCount, p.revisitMs] : List Int) ++
    ([p.revisitDelta, p.driftLimit, p.writeBlocks, p.readBlocks, p.passLimit, p.minWindow, p.patternLoop.code, p.holdTemp] : List Int) ++
    ([p.hyst, p.cutoffTemp, p.faultLineAction.code, p.restOutput.code, p.parkCurrent] : List Int)

/-- The size of each value in the reply: the fewest bytes that hold its range (R185). -/
def valueSizes : List Nat :=
  [1, 1, 1, 1, 1, 1, 1, 1, 2, 2, 2, 2, 2, 2, 2, 2, 1, 2, 1, 2, 2, 2, 1, 4, 1, 2, 1, 1, 1, 2, 1, 2, 1,
   2, 1, 1, 2]

/-! ### Applying the pairs (R183) -/

/-- A profile with the ids clamped so far, in the order they were first clamped. -/
structure Applied where
  profile : Profile
  clamped : List Nat
deriving DecidableEq, Repr

/-- An id is listed as clamped, once (log entry 13). -/
def Applied.list (a : Applied) (id : Nat) : Applied :=
  if a.clamped.contains id then a else { a with clamped := a.clamped ++ [id] }

/-- A value is stored at the nearer end of its range, and listed when that changed it. -/
def Applied.put (a : Applied) (id : Nat) (lo hi v : Int) : Applied :=
  let stored : Applied := { a with profile := a.profile.store id (clamp lo hi v) }
  if clamp lo hi v = v then stored else stored.list id

/-- One pair; cutoff_temp and enumerations are stored as given. -/
def Applied.pair (a : Applied) (pair : Nat × Int) : Applied :=
  match numericRange pair.1 with
  | some (lo, hi) => a.put pair.1 lo hi pair.2
  | none => { a with profile := a.profile.store pair.1 pair.2 }

/-- All pairs in list order, then cutoff_temp against hold_temp + 4..600 (R183; log entry 13). -/
def applyPairs (p : Profile) (pairs : List (Nat × Int)) : Applied :=
  let a := pairs.foldl Applied.pair ⟨p, []⟩
  a.put 33 (a.profile.holdTemp + 4) 600 a.profile.cutoffTemp

/-! ### The request -/

/-- A pair that R182 check 1 refuses. -/
def pairInvalid (pair : Nat × Int) : Bool :=
  36 < pair.1 ||
    match enumValues pair.1 with
    | some vs => !vs.contains pair.2
    | none => false

/-- The reply body: the bay, the ids clamped, the 37 values (R183). The number of ids clamped is also the
count of their list, sent once, and the 37 values carry no count byte (log entry 12, a DESIGN CHOICE). -/
def profileReply (b : BayIx) (clamped : List Nat) (p : Profile) : List Byte :=
  b.byte :: (byte1 clamped.length ++ clamped.flatMap byte1 ++
    (valueSizes.zip p.values).flatMap fun sv => leBytes sv.1 sv.2)

/-- The bay states in which a profile changes (R182 check 3). -/
def BayState.takesProfile : BayState → Bool
  | .offline => true
  | .idle => true
  | .fault => true
  | .acquire => false
  | .follow => false
  | .sweep => false
  | .held => false

/-- The effect of a list that passed: the profile, the thermal levels, the output (R183). -/
def setProfile (p : Profile) (c : Ctx) : Ctx :=
  reevaluateOutput (reevaluateThermal (cutoffPresent c.profile c.thermal) (c.setProfile p))

/-- BAY_PROFILE (R182, R183). -/
def bayProfile (pairs : List (Nat × Int)) (c : Ctx) : Ctx × Reply :=
  if pairs.any pairInvalid then (c, .badArg, [])
  else if pairs.isEmpty then (c, .ok, profileReply c.id [] c.profile)
  else if !c.ctrl.state.takesProfile then (c, .busy, [])
  else if (pairs.any fun p => p.1 == 4) ∧ c.ctrl.state ≠ .offline then (c, .busy, [])
  else
    let a := applyPairs c.profile pairs
    (setProfile a.profile c, if a.clamped.isEmpty then .ok else .adjusted,
      profileReply c.id a.clamped a.profile)

end Sys2Proof.Machine
end

