-- ==== Sys2Proof/Machine/StatusCmd.lean ====
section
/-! DEFINITION. The requests that read a bay: STATUS's groups (R172), REF_LOG (R105), COUNTERS READ
(R127), and EVENT_ROUTE and SELF_CHECK with their replies (R169, R108). Items are laid out by R185 in
the order of R172 and of each block's own rule (log entry 11). -/

namespace Sys2Proof.Machine

/-! ### Groups of STATUS (R172) -/

/-- Bay (R67). The intent is reported in ACQUIRE and as 0 elsewhere (R41). R43 and R67 give the settle watch
as disarmed or a count and do not say how it is sent: the model sends it as an optional item of R185, a
presence byte that is 0 when it is disarmed and then the count in two bytes (log entry 11, a DESIGN CHOICE). -/
def statusBay (c : Ctx) : List Byte :=
  byte1 c.ctrl.state.code ++
    byte1 (if c.ctrl.state = .acquire then c.bay.acq.intent.code else 0) ++
    byte1 c.ctrl.loopHead ++ byte1 c.ctrl.selHead ++ byte1 c.ctrl.switchWait ++
    optBytes 4 c.ctrl.targetFinal ++ optBytes 4 c.ctrl.targetNow ++ optBytes 2 c.ctrl.prevErr ++
    byte2 c.ctrl.command ++ byte1 c.ctrl.settle ++ flagByte (onTrack c) ++ flagByte c.ctrl.frozen ++
    optBytes 2 (optNat c.ctrl.watch)

/-- A slip capture, its slip and sequence number or absent (R19): one presence byte for both (log entry 11,
a DESIGN CHOICE). -/
def slipBytes (x : Option SlipCapture) : List Byte :=
  match x with
  | some x => 1 :: (byte4 x.slip ++ byte2 x.seq)
  | none => 0 :: (byte4 0 ++ byte2 0)

/-- A quadrant or absent. -/
def quadrantBytes (q : Option Quadrant) : List Byte :=
  match q with
  | some q => 1 :: byte1 q.code
  | none => 0 :: byte1 0

/-- Position (R19). -/
def statusPosition (x : Counter) : List Byte :=
  byte4 x.cq ++ quadrantBytes x.qp ++ flagByte x.resolved ++ slipBytes x.latest ++ slipBytes x.previous

/-- Intake (R41). The acquisition items and the loss count are 0 in the states that do not report them (R41);
that the threshold is 0 with them is log entry 11, a DESIGN CHOICE. -/
def statusIntake (c : Ctx) : List Byte :=
  byte1 c.bay.intake.queue.length ++ byte1 c.profile.queueDepth ++
    (if c.ctrl.state = .acquire then byte1 c.bay.acq.run ++ byte2 c.bay.acq.elapsed
     else byte1 0 ++ byte2 0) ++
    (if c.ctrl.state.following then byte2 c.bay.acq.loss ++ byte2 (lossThreshold c.profile)
     else byte2 0 ++ byte2 0)

/-- The current plan (R151): present, origin, next index or probe id, remaining steps of a probe.
One presence byte stands for the group (log entry 11, a DESIGN CHOICE). -/
def planBytes (p : Option Plan) : List Byte :=
  match p with
  | some (.base i) => 1 :: ((Plan.base i).bytes ++ byte1 0)
  | some (.probe id steps) => 1 :: ((Plan.probe id steps).bytes ++ byte1 steps.length)
  | none => 0 :: (byte1 0 ++ byte1 0 ++ byte1 0)

/-- The work in flight (R151): none 0, plan step 1 with kind, head and zone, visit 2 with its kind. -/
def jobBytes (w : Option Work) : List Byte :=
  match w with
  | none => [0, 0, 0, 0]
  | some w =>
    match w.job with
    | .offset h z => byte1 1 ++ byte1 StepKind.offset.code ++ byte1 h ++ byte1 z
    | .jog h z => byte1 1 ++ byte1 StepKind.jog.code ++ byte1 h ++ byte1 z
    | .visit k => byte1 2 ++ byte1 k.code ++ [0, 0]

/-- The scan position in MOVE, SETTLE and READ (R128). -/
def Phase.scan : Phase → Option Nat
  | .move k => some k
  | .settleAt k => some k
  | .read k => some k
  | .seek => none
  | .settle => none
  | .refAvg => none
  | .switch => none
  | .headAvg => none
  | .retHead => none
  | .loopSwitchOut => none
  | .writePass => none
  | .loopSwitchBack => none
  | .interrupted => none

/-- Whether the phase counts against the phase limit (R94, R116). -/
def Phase.limited : Phase → Bool
  | .retHead => true
  | .loopSwitchOut => true
  | .loopSwitchBack => true
  | .seek => false
  | .settle => false
  | .refAvg => false
  | .switch => false
  | .headAvg => false
  | .writePass => false
  | .move _ => false
  | .settleAt _ => false
  | .read _ => false
  | .interrupted => false

/-- An open window: averaged head, collected and the delivered count (R105), with one presence byte for the
group (log entry 11, a DESIGN CHOICE). -/
def windowBytes (w : Option Window) : List Byte :=
  match w with
  | some w => 1 :: (byte1 w.head ++ byte2 w.collected ++ byte2 w.delivered)
  | none => 0 :: (byte1 0 ++ byte2 0 ++ byte2 0)

/-- The phase of the work in flight with its details (R105, R128, R151): phase, open window, scan
position, results gathered, phase-limit count. R172 does not say whether an item that only some phases
report is optional by R185: the model sends a presence byte before the phase, before the scan position and
before the phase-limit count, and none before the results gathered (log entry 11, a DESIGN CHOICE). -/
def phaseBytes (c : Ctx) : List Byte :=
  let w := c.sweep.work
  optBytes 1 (optNat (w.bind Work.phaseCode)) ++ windowBytes c.meas.window ++
    optBytes 1 (optNat (w.bind fun w => w.phase.scan)) ++
    byte1 (match w with
      | some w => w.results.length
      | none => 0) ++
    optBytes 2 (optNat (w.bind fun w => if w.phase.limited then some c.sweep.phaseLimit else none))

/-- The number most recently assigned in the sweep, if any (R143, R151). -/
def Sweep.lastSeq (s : Sweep) : Option Nat := if s.seqNext = 0 then none else some (s.seqNext - 1)

/-- Sweep (R151). The last step outcome and the last sweep outcome are optional items: none is sent as a
presence byte 0 and a 0, and an outcome as a presence byte 1 and its place among the outcomes, WRITTEN
and COMPLETE being 0 (log entry 31, a DESIGN CHOICE). So is the pending probe's id (log entry 11, a DESIGN
CHOICE). One count byte serves as the stack depth and as the
count of the stack's entries (log entry 12, a DESIGN CHOICE). -/
def statusSweep (c : Ctx) : List Byte :=
  let s := c.sweep
  flagByte s.active ++ byte2 s.number ++
    optBytes 1 (match s.lastOutcome with
      | some o => some o.code
      | none => none) ++
    s.holds.bytes ++ planBytes s.plan ++ byte1 s.basePlan.code ++ jobBytes s.work ++ phaseBytes c ++
    seqBytes (s.work.bind fun w => w.seq) ++ seqBytes s.lastSeq ++
    optBytes 1 (match s.probe with
      | some (id, _) => some id
      | none => none) ++
    byte1 s.stack.length ++ s.stack.reverse.flatMap Plan.bytes ++
    byte1 s.retry ++ byte2 s.measured ++ byte2 s.skipped ++ byte2 s.lost ++
    optBytes 1 (match s.lastStep with
      | some o => some o.code
      | none => none)

/-- The run in CHECK, and the window counts in LOCKED (R128); 0 in the other states, with no presence byte
(log entry 11, a DESIGN CHOICE). -/
def checkerBytes (p : Pattern) : List Byte :=
  byte1 p.checker.code ++
    match p.checker with
    | .hunt => [0, 0, 0]
    | .check => byte1 p.run ++ [0, 0]
    | .locked => 0 :: (byte1 p.winCompared ++ byte1 p.winMismatches)

/-- Pattern (R128). The byte that says whether a write is outstanding stands before its revolution count, and
the byte that says whether a capture is open before its counts, all 0 when there is none (log entry 11, a
DESIGN CHOICE). -/
def statusPattern (p : Pattern) : List Byte :=
  flagByte p.selfCheck ++ optBytes 1 (optNat p.write) ++
    (match p.capture with
      | some k => 1 :: (byte1 k.expected ++ byte1 k.received ++ byte1 k.revs)
      | none => [0, 0, 0, 0]) ++
    checkerBytes p ++ byte2 p.posCompared ++ byte2 p.posMismatches

/-- Thermal (R165). -/
def statusThermal (t : Thermal) : List Byte :=
  tempBytes t.temp ++ byte2 t.staleTimer ++ flagByte t.staleRunning ++ tempBytes t.lastRef

/-- Condition levels (R165, R41). -/
def statusLevels (c : Ctx) : List Byte :=
  flagByte c.bay.intake.warn ++ flagByte c.thermal.stale ++ flagByte c.thermal.hold ++
    flagByte c.thermal.cutoff ++ flagByte c.thermal.line ++
    flagByte (cutoffPresent c.profile c.thermal)

/-- All event kinds in number order. -/
def allKinds : List EventKind :=
  [.acquired, .servoLoss, .acquireTimeout, .positionSlip, .quadJump, .queueWarn, .queueOverrun,
   .stepFailed, .driftExcess, .resumeLost, .sweepDone, .tempHold, .tempClear, .tempCutoff,
   .sensorStale, .faultLine, .patternLost, .countSaturated]

/-- Events (R172): eighteen latched flags with no count byte (log entry 12), overflow flag, occupancy. -/
def statusEvents (u : EventUnit) (q : EventQueue) : List Byte :=
  (allKinds.flatMap fun k => flagByte (u.flag k)) ++ flagByte q.overflow ++ byte1 q.frames.length

/-- The reply's groups in order (R172). -/
def statusReply (q : EventQueue) (c : Ctx) : List Byte :=
  statusBay c ++ statusPosition c.bay.counter ++ statusIntake c ++ statusSweep c ++
    statusPattern c.pattern ++ statusThermal c.thermal ++ statusLevels c ++ statusEvents c.bay.unit q

/-- Whether a mask names a kind above 17, bits 18 to 22 (R171). -/
def maskInvalid (mask : Nat) : Bool := mask / 2 ^ 18 % 32 != 0

/-- Whether a mask names the overflow flag, bit 23. -/
def maskOverflow (mask : Nat) : Bool := mask.testBit 23

/-- The bay's side of STATUS: the reading, then the clear (R172, R173). -/
def statusOfBay (mask : Nat) (q : EventQueue) (c : Ctx) : Ctx × Reply :=
  (c.setUnit (c.bay.unit.clearFlags mask), .ok, statusReply q c)

/-! ### REF_LOG (R105) -/

/-- A record of the log. -/
def RefRecord.bytes (r : RefRecord) : List Byte := byte2 r.seq ++ byte2 r.value ++ tempBytes r.temp

/-- REF_LOG (R105). One count byte serves as the Record count and as the count of the list of Records, and
is not sent twice (log entry 12, a DESIGN CHOICE). -/
def refLog (c : Ctx) : Ctx × Reply :=
  (c, .ok,
    byte2 c.sweep.number ++ flagByte c.sweep.active ++ byte1 c.meas.log.length ++
      c.meas.log.flatMap RefRecord.bytes ++ byte1 c.meas.failedVisits ++ byte2 c.meas.offsetCount ++
      byte4 c.meas.elapsed ++ presenceByte [c.meas.dueCount, c.meas.dueTime, c.meas.dueTemp] ++
      tempBytes c.thermal.lastRef)

/-! ### COUNTERS and SELF_CHECK (R108, R127) -/

/-- READ's reply: holding bits checked, mismatches, sync losses. -/
def countersRead (c : Ctx) : Ctx × Reply :=
  (c, .ok, byte4 c.pattern.holding.checked ++ byte2 c.pattern.holding.mismatches ++
    byte1 c.pattern.holding.syncLosses)

/-- A bay's share of SNAPSHOT. -/
def Bay.snapshot (b : Bay) : Bay :=
  { b with pattern := { b.pattern with holding := b.pattern.running } }

/-- A bay's share of RESET. -/
def Bay.resetCounters (b : Bay) : Bay :=
  { b with pattern := { b.pattern with running := Counters.zero } }

/-- SELF_CHECK: the reply says whether the flag was already armed. -/
def selfCheck (c : Ctx) : Ctx × Reply :=
  (c.setPattern { c.pattern with selfCheck := true }, .ok, flagByte c.pattern.selfCheck)

/-! ### EVENT_ROUTE (R169) -/

/-- A pair that makes the request BAD_ARG. -/
def routeInvalid (pair : Nat × Nat) : Bool := 17 < pair.1 || (Disposition.ofCode pair.2).isNone

/-- A pair that would move a fixed kind off NOTIFY. -/
def routeKept (pair : Nat × Nat) : Bool := fixedKind pair.1 && pair.2 != Disposition.notify.code

/-- A pair applied. -/
def routePair (ds : List Disposition) (pair : Nat × Nat) : List Disposition :=
  if fixedKind pair.1 then ds else ds.set pair.1 ((Disposition.ofCode pair.2).getD .latch)

/-- EVENT_ROUTE. The dispositions are eighteen bytes (log entry 12). -/
def eventRoute (pairs : List (Nat × Nat)) (c : Ctx) : Ctx × Reply :=
  if 18 < pairs.length ∨ pairs.any routeInvalid then (c, .badArg, [])
  else
    let ds := pairs.foldl routePair c.bay.unit.dispositions
    (c.setUnit { c.bay.unit with dispositions := ds },
      if pairs.any routeKept then .adjusted else .ok, ds.flatMap fun d => byte1 d.code)

end Sys2Proof.Machine
end

