-- ==== Sys2Proof/Machine/Link.lean ====
section
/-! DEFINITION. The part around the bays: the event queue and the transmit arbiter (R170, R178), a bay's
work committed to the part, the receiver and receive queue (R175, R176), the take of a request (R177),
and the effect of PART_RESET (R180). -/

namespace Sys2Proof.Machine

/-! ### Transmit side -/

/-- A frame's sending begins. -/
def State.beginFrame (s : State) (f : TxFrame) : State :=
  { s with link := { s.link with line := some f }, sentFrames := s.sentFrames ++ [f] }

/-- The transmit arbiter (R178): on a free line the oldest answer, else the oldest event frame, begins. -/
def arbiter (s : State) : State :=
  match s.link.line, s.link.replies, s.events.frames with
  | some _, _, _ => s
  | none, a :: rest, _ =>
      { s with link := { s.link with replies := rest } }.beginFrame (.answer a)
  | none, [], e :: rest =>
      { s with events := { s.events with frames := rest } }.beginFrame (.event e)
  | none, [], [] => s

/-- An event frame is offered to the event queue (R170). -/
def offerEvent (s : State) (e : EventFrame) : State :=
  if s.events.frames.length < Config.eventQueueSize then
    arbiter { s with events := { s.events with frames := s.events.frames ++ [e] } }
  else { s with events := { s.events with overflow := true } }

/-- An answer is added to the reply list (R178). -/
def addAnswer (s : State) (a : Answer) : State :=
  arbiter { s with link := { s.link with replies := s.link.replies ++ [a] } }

/-! ### A bay's work, committed -/

/-- A bay's blocks and the records it sent, put back into the part. -/
def putBay (c : Ctx) (s : State) : State :=
  { s with
    bays := s.bays.set c.id c.bay
    sentRecords := s.sentRecords.set c.id (s.sentRecords.get c.id ++ c.records) }

/-- A bay's work takes effect in the part: its blocks, its outbound records, its event frames in order
(R25, R166). -/
def commit (c : Ctx) (s : State) : State := c.frames.foldl offerEvent (putBay c s)

/-- A bay about to work. -/
def State.ctx (s : State) (b : BayIx) : Ctx := Ctx.start b (s.bays.get b)

/-- A bay works. -/
def onBay (b : BayIx) (f : Ctx → Ctx) (s : State) : State := commit (f (s.ctx b)) s

/-- A bay works on a request and replies. -/
def onBayReply (b : BayIx) (f : Ctx → Ctx × Reply) (s : State) : State × Reply :=
  let r := f (s.ctx b)
  (commit r.1 s, r.2)

/-- Whether a bay is OFFLINE. -/
def State.offline (s : State) (b : BayIx) : Bool := (s.bays.get b).ctrl.state == .offline

/-! ### Receive side -/

/-- Whether the receive queue refuses (R176). -/
def Link.refusing (l : Link) : Bool :=
  l.resetPending || decide (Config.receiveQueueSize ≤ l.rxQueue.length)

/-- Whether the receiver is closed (R176). -/
def Link.closed (l : Link) : Bool :=
  l.refusing && decide (Config.queueFullAnswers ≤ l.replies.countP fun a => !a.taken)

/-- A received frame is offered to the receive queue (R176). -/
def offerFrame (s : State) (f : Frame) : State :=
  if s.link.refusing then addAnswer s ⟨f.kind, f.tag, .queueFull, [], false⟩
  else { s with link := { s.link with rxQueue := s.link.rxQueue ++ [f] } }

/-- The frame that the bytes after a start byte are, when they are whole and pass the check (R175). -/
def checkFrame : List Byte → Option Frame
  | l0 :: l1 :: kind :: tag :: rest =>
    let n := leNat [l0, l1]
    let sums := fletcher (l0 :: l1 :: kind :: tag :: rest.take (n - 2))
    if rest.drop (n - 2) = [BitVec.ofNat 8 sums.1, BitVec.ofNat 8 sums.2] then
      some ⟨kind, tag, rest.take (n - 2)⟩
    else none
  | _ => none

/-- The receiver with the bytes since the start byte, the newest among them, and the frame they
complete, if any (R175). -/
def receiverAfter (bytes : List Byte) : Receiver × Option Frame :=
  match bytes with
  | l0 :: l1 :: rest =>
    let n := leNat [l0, l1]
    if n < Config.lengthMin ∨ Config.lengthMax < n then (.hunting, none)
    else if rest.length < n + 2 then (.assembling bytes, none)
    else (.hunting, checkFrame bytes)
  | _ => (.assembling bytes, none)

/-- The receiver after a byte (R175). -/
def Receiver.step (r : Receiver) (b : Byte) : Receiver × Option Frame :=
  match r with
  | .hunting => if b = Config.startByte then (.assembling [], none) else (.hunting, none)
  | .assembling bytes => receiverAfter (bytes ++ [b])

/-- The receiver takes its new state. -/
def State.setReceiver (s : State) (r : Receiver) : State := { s with link := { s.link with receiver := r } }

/-- A byte arrives on SL_RX (R175, R176). -/
def receiveByte (s : State) (b : Byte) : State :=
  if s.link.closed then s.setReceiver .hunting
  else
    let r := s.link.receiver.step b
    match r.2 with
    | some f => offerFrame (s.setReceiver r.1) f
    | none => s.setReceiver r.1

/-- Bytes arrive in order. -/
def receiveBytes (bytes : List Byte) (s : State) : State := bytes.foldl receiveByte s

/-! ### Taking a request (R177) -/

/-- A request's frame stands oldest in the receive queue, or it arrives now (log entry 5). With the
receiver hunting and open, the bytes of a frame that fits offer that frame, so it is offered directly. -/
def arrive (f : Frame) (s : State) : State :=
  if s.link.rxQueue.head? = some f then s
  else if s.link.receiver = .hunting ∧ s.link.closed = false ∧ bodyFits f.body = true then
    offerFrame s f
  else receiveBytes (frameBytes f.kind f.tag f.body) s

/-- Whether the link takes the oldest frame, when there is one (R177). -/
def Link.ready (l : Link) : Bool := !l.resetPending && l.replies.all fun a => !a.taken

/-- The oldest frame leaves the receive queue. -/
def State.takeFrame (s : State) : State :=
  { s with link := { s.link with rxQueue := s.link.rxQueue.tail } }

/-- The take of a frame with its effect and answer (R177). -/
def takeRequest (f : Frame) (effect : State → State × Reply) (s : State) : State :=
  let r := effect s.takeFrame
  addAnswer r.1 ⟨f.kind, f.tag, r.2.1, r.2.2, true⟩

/-- A request row: its frame arrives unless it is there, and is taken when the link takes it and it is
the row's. `own` is false for a frame that another row of the same kind names (log entry 5). -/
def request (kind tag : Byte) (body : List Byte) (own : Bool) (effect : State → State × Reply)
    (s : State) : State :=
  let f : Frame := ⟨kind, tag, body⟩
  let s1 := arrive f s
  if s1.link.rxQueue.head? = some f ∧ s1.link.ready = true ∧ own = true then takeRequest f effect s1
  else s1

/-- Check 2 of R177, for a body as its reader reads it. -/
def withFields {α : Type} (r : Option α) (f : α → State → State × Reply) (s : State) : State × Reply :=
  match r with
  | none => (s, .badLength, [])
  | some x => f x s

/-- Check 3 of R177, then the bay's own work. -/
def withBay (b : Byte) (f : Ctx → Ctx × Reply) (s : State) : State × Reply :=
  match bayOfByte b with
  | none => (s, .badBay, [])
  | some i => onBayReply i f s

/-! ### PART_RESET takes effect (R180) -/

/-- A bay's part of the reset: DRIVE 0 if its command is not 0, then POWER off (R66, R180). -/
def resetRecords (c : Ctx) : Ctx :=
  if c.ctrl.state = .offline then c else (setCommand 0 c).send (.power false)

/-- Every block at its power-on values; the line rate, the receiver and the QUEUE_FULL answers kept
(R180). -/
def resetBlocks (s : State) : State :=
  { s with
    bays := PerBay.all Bay.reset
    demod := Demod.reset
    events := EventQueue.reset
    link := { s.link with rxQueue := [], resetPending := false,
                          replies := s.link.replies.filter fun a => !a.taken } }

/-- The reset takes effect. -/
def resetEffect (s : State) : State := resetBlocks (allBays.foldl (fun s b => onBay b resetRecords s) s)

/-- Whether the last byte of the frame on the line is the last byte of the PART_RESET reply. -/
def State.resetDue (s : State) : Bool :=
  s.link.resetPending &&
    match s.link.line with
    | some (.answer a) => a.taken && a.request == 0x02 && a.status == .ok
    | some (.event _) => false
    | none => false

/-- The line becomes free and the arbiter acts (R178). -/
def State.freeLine (s : State) : State := arbiter { s with link := { s.link with line := none } }

/-- The last byte of the frame on the line leaves (R178, R180). -/
def State.endFrame (s : State) : State :=
  match s.link.line with
  | none => s
  | some _ => if s.resetDue then (resetEffect s).freeLine else s.freeLine

end Sys2Proof.Machine
end

