-- ==== Sys2Proof/Machine/BayCmd.lean ====
section
/-! DEFINITION. The requests to the bay controller and the profile: BAY_PROFILE (R182, R183), BAY_POWER (R45,
R46), MOVE (R47, R48), STOP (R49) and CLEAR (R50). -/

namespace Sys2Proof.Machine

/-- BAY_PROFILE. -/
def execBayProfile (tag : Byte) (body : List Byte) (s : State) : Host.Outcome State Fault Refusal :=
  .next (request 0x03 tag body true
    (withFields (readProfile body) fun x => withBay x.1 (bayProfile x.2)) s)

/-- The option of a body that bay and option lay out. -/
def optionOf (body : List Byte) : Option Nat := (readBayOption body).map Prod.snd

/-- BAY_POWER's effect (R44). -/
def powerEffect (body : List Byte) : State → State × Reply :=
  withFields (readBayOption body) fun x => withBay x.1 (bayPower x.2)

/-- BAY_POWER on. -/
def execBayPowerOn (tag : Byte) (body : List Byte) (s : State) : Host.Outcome State Fault Refusal :=
  .next (request 0x10 tag body (optionOf body != some 0) (powerEffect body) s)

/-- BAY_POWER off. -/
def execBayPowerOff (tag : Byte) (body : List Byte) (s : State) : Host.Outcome State Fault Refusal :=
  .next (request 0x10 tag body (optionOf body != some 1) (powerEffect body) s)

/-- MOVE. -/
def execMove (tag : Byte) (body : List Byte) (s : State) : Host.Outcome State Fault Refusal :=
  .next (request 0x11 tag body true
    (withFields (readMove body) fun x => withBay x.1 (moveBay x.2.1 x.2.2.1 x.2.2.2)) s)

/-- STOP. -/
def execStop (tag : Byte) (body : List Byte) (s : State) : Host.Outcome State Fault Refusal :=
  .next (request 0x12 tag body true (withFields (readBay body) fun b => withBay b stopBay) s)

/-- CLEAR. -/
def execClear (tag : Byte) (body : List Byte) (s : State) : Host.Outcome State Fault Refusal :=
  .next (request 0x13 tag body true (withFields (readBay body) fun b => withBay b clearBay) s)

end Sys2Proof.Machine
end

