-- ==== Sys2Proof/Machine/ClockCmd.lean ====
section
/-! DEFINITION. The commands of the pins and the clock: POWER_ON (R181), TIME_BASE_TICK (R153), and the
two events of a tick with rows of their own, ACQUIRE_TIMEOUT (R35) and SENSOR_STALE (R155). -/

namespace Sys2Proof.Machine

/-- The part after the release of RSTN with BAUD_SEL as sampled (R174, R181). The commands that wait are
the world's and stay; the traces begin again (log entry 30). -/
def poweredOn (baudSelHigh : Bool) (s : State) : State :=
  { State.reset with link := Link.reset baudSelHigh, pending := s.pending }

/-- POWER_ON. -/
def execPowerOn (baudSelHigh : Bool) (s : State) : Host.Outcome State Fault Refusal :=
  .next (poweredOn baudSelHigh s)

/-- A list with an item put at its end unless it is there. -/
def addOnce (l : List TimerId) (t : TimerId) : List TimerId := if l.contains t then l else l ++ [t]

/-- The order in which a tick reaches the timers: those named, then the rest (R153; log entry 7). -/
def tickOrder (order : List TimerId) : List TimerId := (order ++ allTimers).foldl addOnce []

/-- A tick reaches one timer of the part. -/
def tickOne (s : State) (t : TimerId) : State := onBay t.bay (tickTimer t.kind) s

/-- A tick of the time base (R153). -/
def tickAll (order : List TimerId) (s : State) : State := (tickOrder order).foldl tickOne s

/-- TIME_BASE_TICK. -/
def execTimeBaseTick (order : List TimerId) (s : State) : Host.Outcome State Fault Refusal :=
  .next (tickAll order s)

/-- ACQUIRE_TIMEOUT: the tick that expires the bay's acquisition timer (R35; log entry 6). -/
def execAcquireTimeout (b : BayIx) (s : State) : Host.Outcome State Fault Refusal :=
  .next (if acquireDue (s.ctx b) then onBay b tickAcquire s else s)

/-- SENSOR_STALE: the tick that makes the bay's temperature stale (R155; log entry 6). -/
def execSensorStale (b : BayIx) (s : State) : Host.Outcome State Fault Refusal :=
  .next (if staleDue (s.ctx b) then onBay b tickStale s else s)

end Sys2Proof.Machine
end

