-- ==== Sys2Proof/Machine/Counter.lean ====
section
/-! DEFINITION. Burst demodulation and the position counter (chapter 1): the arithmetic of a wedge, the
sample classes, and the counter's step, resynchronisation and placement. -/

namespace Sys2Proof.Machine

/-- P = A − B (R1). -/
def WedgeSync.p (y : WedgeSync) : Int := (y.a : Int) - y.b
/-- Q = C − D (R1). -/
def WedgeSync.q (y : WedgeSync) : Int := (y.c : Int) - y.d
/-- The burst sum Den = |P| + |Q| (R1). -/
def WedgeSync.den (y : WedgeSync) : Nat := (WedgeSync.p y).natAbs + (WedgeSync.q y).natAbs

/-- The quadrant by the signs of P and Q (R2). P = Q = 0 never reaches it, being WEAK (R1). -/
def quadrantOf (p q : Int) : Quadrant :=
  if 0 < p ∧ 0 ≤ q then .one
  else if p ≤ 0 ∧ 0 < q then .two
  else if p < 0 ∧ q ≤ 0 then .three
  else .four

/-- The phase fraction t = truncate(|Q| × 1024 / Den) (R2). -/
def phaseFraction (q : Int) (den : Nat) : Int := truncDiv ((q.natAbs : Int) * 1024) den

/-- The offset from track centre (R2). -/
def trackOffset (k : Quadrant) (t : Int) : Int :=
  match k with
  | .one => t
  | .two => 2048 - t
  | .three => t - 2048
  | .four => -t

/-- Quadrants from `qp` to `q`, counted modulo 4 (R11). -/
def quadrantStep (qp q : Quadrant) : Nat := (q.code + 4 - qp.code) % 4

/-- The counts that belong to real tracks (R13). -/
def realCount (cq : Int) : Bool := -2 ≤ cq && cq ≤ 2097149

/-- The expected count of a track number and quadrant (R15). -/
def countRead (track : Nat) (q : Quadrant) : Int :=
  match q with
  | .one => 4 * track
  | .two => 4 * track + 1
  | .three => 4 * track - 2
  | .four => 4 * track - 1

/-- What a wedge's step does to the counter (R11 to R14), and whether it is a quadrant jump. -/
def Counter.step (x : Counter) (q : Quadrant) : Counter × Bool :=
  match x.resolved, x.qp with
  | true, some qp =>
    match quadrantStep qp q with
    | 0 => ({ x with qp := some q }, false)
    | 1 => ({ x with cq := x.cq + 1, qp := some q, resolved := realCount (x.cq + 1) }, false)
    | 3 => ({ x with cq := x.cq - 1, qp := some q, resolved := realCount (x.cq - 1) }, false)
    | _ => ({ x with qp := some q, resolved := false }, true)
  | _, _ => ({ x with qp := some q }, false)

/-- The slip that a track number shows, when the counter is resolved and disagrees (R16). -/
def Counter.slipRead (x : Counter) (track : Nat) (q : Quadrant) : Option Int :=
  if x.resolved ∧ countRead track q ≠ x.cq then some (countRead track q - x.cq) else none

/-- The slip captures after a slip (R16). -/
def Counter.capture (x : Counter) (slip : Int) (seq : Nat) : Counter :=
  match x.latest with
  | some old => { x with previous := some old, latest := some ⟨slip, seq⟩ }
  | none => { x with latest := some ⟨slip, seq⟩ }

/-- The counter takes the count a track number gives (R15). -/
def Counter.adopt (x : Counter) (track : Nat) (q : Quadrant) : Counter :=
  { x with cq := countRead track q, qp := some q, resolved := true }

/-- The track number of a wedge without one, from a resolved counter (R18). -/
def Counter.track (x : Counter) : Option Int :=
  if x.resolved then some (floorDiv (x.cq + 2) 4) else none

/-- Resynchronisation from a wedge's track number (R15, R16). -/
def resync (head track : Nat) (q : Quadrant) (c : Ctx) : Ctx :=
  match c.bay.counter.slipRead track q with
  | some slip =>
    let seq := lastSeqOrZero c.sweep
    let c1 := raise (.positionSlip head slip seq)
      (c.setCounter (c.bay.counter.capture slip seq))
    c1.setCounter (c1.bay.counter.adopt track q)
  | none => c.setCounter (c.bay.counter.adopt track q)

/-- The counter's step on a wedge that reaches it, with QUAD_JUMP on d = 2 (R11, R12). -/
def stepCounter (head : Nat) (q : Quadrant) (c : Ctx) : Ctx :=
  let before := c.bay.counter
  let stepped := before.step q
  if stepped.2 then
    raise (.quadJump head (before.qp.getD q) q before.cq) (c.setCounter stepped.1)
  else c.setCounter stepped.1

/-- A wedge that passed the burst-sum test: the counter acts and the sample is placed (R11, R18). -/
def placeWedge (head : Nat) (y : WedgeSync) (c : Ctx) : Ctx × Sample :=
  let q := quadrantOf (WedgeSync.p y) (WedgeSync.q y)
  let o := trackOffset q (phaseFraction (WedgeSync.q y) (WedgeSync.den y))
  let mark := y.index == 0
  let den := WedgeSync.den y
  let c1 := stepCounter head q c
  match y.track with
  | some t =>
    (resync head t q c1, ⟨.position, head, mark, some den, some q, some ((t : Int) * 4096 + o)⟩)
  | none =>
    match c1.bay.counter.track with
    | some t => (c1, ⟨.position, head, mark, some den, some q, some (t * 4096 + o)⟩)
    | none => (c1, ⟨.unplaced, head, mark, some den, some q, none⟩)

/-- The demodulator completes a wedge of a powered bay: its class (R4), the counter's update and the
sample it hands over (R5, R6, R8). -/
def classify (w : Wedge) (c : Ctx) : Ctx × Sample :=
  match w.sync with
  | none => (c, ⟨.noSync, w.head, false, none, none, none⟩)
  | some y =>
    if w.head ≠ c.ctrl.selHead then (c, ⟨.foreign, w.head, y.index == 0, none, none, none⟩)
    else if WedgeSync.den y < c.profile.minSum then
      (c, ⟨.weak, w.head, y.index == 0, some (WedgeSync.den y), none, none⟩)
    else placeWedge w.head y c

end Sys2Proof.Machine
end

