-- ==== Sys2Proof/Machine/Loop.lean ====
section
/-! DEFINITION. What a bay does with a delivered sample (R58): the switch wait, acquisition (R33, R34), loss
counting and servo loss (R38, R39, R147), the track-following loop (R59 to R63), and the phases of the
sweep engine's work. -/

namespace Sys2Proof.Machine

/-! ### Servo loss (R39, R147) -/

/-- The sweep's side of a servo loss (R147). -/
def sweepLoss (c : Ctx) : Ctx :=
  if c.sweep.active then
    let c1 := c.setSweep { c.sweep with retry := c.sweep.retry + 1 }
    if c1.sweep.retry < Config.retryLimit then interruptWork c1 else endSweep .lostServo c1
  else c

/-- The command that a servo loss leaves (R39 step 2). -/
def lossCommand (p : Profile) (command : Int) : Int :=
  match p.lossOutput with
  | .holdLast => command
  | .zero => 0

/-- The acquire intent after a servo loss (R39 step 3). -/
def lossIntent (s : BayState) : Intent := if s = .follow then .follow else .sweep

/-- Servo loss on a sample of class `cls` (R39). The sample's DRIVE record carries the command left. -/
def servoLoss (cls : SampleClass) (c : Ctx) : Ctx :=
  let c1 := raise (.servoLoss c.ctrl.selHead c.ctrl.state (lossThreshold c.profile) cls) c
  let c2 := c1.setCtrl { c1.ctrl with command := lossCommand c1.profile c1.ctrl.command }
  sweepLoss (enterAcquire (lossIntent c.ctrl.state) c2)

/-- Whether a class counts toward servo loss and breaks an acquisition run (R33, R38). -/
def SampleClass.unusable : SampleClass → Bool
  | .noSync => true
  | .foreign => true
  | .weak => false
  | .unplaced => false
  | .position => false

/-- Loss counting of a sample; true when servo loss occurred (R38). -/
def countLoss (x : Sample) (c : Ctx) : Ctx × Bool :=
  if c.ctrl.selHead ≠ c.ctrl.loopHead then (c, false)
  else if x.cls.unusable then
    let c1 := c.setAcq { c.bay.acq with loss := c.bay.acq.loss + 1 }
    if lossThreshold c.profile ≤ c1.bay.acq.loss then ((servoLoss x.cls c1).note .servoLoss, true)
    else (c1, false)
  else (c.setAcq { c.bay.acq with loss := 0 }, false)

/-! ### Acquisition (R33, R34) -/

/-- The run count after a sample (R33). -/
def runAfter (cls : SampleClass) (run : Nat) : Nat := if cls.unusable then 0 else satInc 255 run

/-- The state an intent names. -/
def Intent.state : Intent → BayState
  | .follow => .follow
  | .sweep => .sweep

/-- Acquisition completes on a sample at `pos` (R34). The previous error is absent after it (R56; log
entry 14). -/
def acquisitionCompletes (pos : Int) (c : Ctx) : Ctx :=
  let intent := c.bay.acq.intent
  let c1 := (c.setAcq { c.bay.acq with run := 0, loss := 0 }).setCtrl
    { c.ctrl with targetNow := some pos, prevErr := none }
  let c2 := raise (.acquired c.ctrl.selHead pos intent c.bay.acq.elapsed) c1
  let c3 := c2.setCtrl { c2.ctrl with state := intent.state }
  match intent with
  | .follow => c3
  | .sweep => engineResumes c3

/-- A sample in ACQUIRE (R33, R34). -/
def acquireSample (x : Sample) (c : Ctx) : Ctx :=
  let c1 := c.setAcq { c.bay.acq with run := runAfter x.cls c.bay.acq.run }
  match x.cls, x.position with
  | .position, some pos =>
    if c.profile.acqCount ≤ c1.bay.acq.run then acquisitionCompletes pos c1 else c1
  | _, _ => c1

/-! ### The loop (R59 to R63) -/

/-- target_now moved toward target_final (R59). -/
def slew (limit : Nat) (now final : Int) : Int :=
  if (final - now).natAbs ≤ limit then final
  else if now < final then now + limit else now - limit

/-- The error (R60). -/
def loopError (target pos : Int) : Int := clampSym 32767 (target - pos)

/-- The derivative term (R60). -/
def derivative (p : Profile) (e : Int) (prev : Option Int) : Int :=
  match prev with
  | some q => truncDiv (p.kd * (e - q)) 64
  | none => 0

/-- The command (R60). -/
def loopCommand (p : Profile) (e : Int) (prev : Option Int) : Int :=
  clampSym p.currentLimit (p.bias + truncDiv (p.kp * e) 64 + derivative p e prev)

/-- A loop update (R59, R60) and the settle count it leaves (R62). -/
def loopUpdate (pos now final : Int) (c : Ctx) : Ctx :=
  let p := c.profile
  let target := slew p.slewPu now final
  let e := loopError target pos
  c.setCtrl { c.ctrl with
    targetNow := some target
    prevErr := some e
    command := loopCommand p e c.ctrl.prevErr
    settle := if e.natAbs ≤ p.onTrackWindow ∧ target = final then satInc 255 c.ctrl.settle else 0 }

/-- What the loop tells the sweep engine of a sample. -/
structure LoopNews where
  seeded : Bool
  atTarget : Bool
  onTrack : Bool
  timedOut : Bool
deriving DecidableEq, Repr

/-- The loop receives a sample (R56, R60, R61): seeded, updated, or held with the settle count at 0. -/
def loopReceives (x : Sample) (c : Ctx) : Ctx × Bool × Bool :=
  let held := c.setCtrl { c.ctrl with settle := 0 }
  if c.ctrl.frozen then (held, false, false)
  else
    match x.cls, x.position with
    | .position, some pos =>
      if x.head ≠ c.ctrl.loopHead then (held, false, false)
      else
        match c.ctrl.targetNow, c.ctrl.targetFinal with
        | none, _ => (c.setCtrl { c.ctrl with targetNow := some pos, settle := 0 }, true, false)
        | some _, none => (held, false, false)
        | some now, some final =>
          let c1 := loopUpdate pos now final c
          (c1, false, c1.ctrl.targetNow == some final)
    | _, _ => (held, false, false)

/-- The armed settle watch counts a sample; the settle count is tested first (R63). The answers are
on track, and timed out. -/
def watchCounts (c : Ctx) : Ctx × Bool × Bool :=
  match c.ctrl.watch with
  | none => (c, false, false)
  | some n =>
    if onTrack c then (c.setCtrl { c.ctrl with watch := none }, true, false)
    else if c.profile.settleTimeout ≤ n + 1 then (c.setCtrl { c.ctrl with watch := none }, false, true)
    else (c.setCtrl { c.ctrl with watch := some (n + 1) }, false, false)

/-- Step 3 of R58. -/
def loopStage (x : Sample) (c : Ctx) : Ctx × LoopNews :=
  let l := loopReceives x c
  let w := watchCounts l.1
  (w.1, ⟨l.2.1, l.2.2, w.2.1, w.2.2⟩)

/-! ### The sweep engine's phases (sections 5.3 and 6.4) -/

/-- The SETTLE after SEEK ends: the step is stamped, and REF_AVG or WRITE_PASS begins (R90, R117). -/
def settleEnds (w : Work) (c : Ctx) : Ctx :=
  let s := stamp w c
  match w.job with
  | .jog _ _ => beginWritePass s.1 s.2
  | .offset _ _ => beginRefAvg s.1 s.2
  | .visit _ => beginRefAvg s.1 s.2

/-- A settle timeout in any phase (R90, R117, R119). -/
def settleTimesOut (w : Work) (c : Ctx) : Ctx :=
  let c1 := c.note .settleTimeout
  match w.job with
  | .jog _ _ => jogFails w .settleTimeout c1
  | .offset _ _ => measurementFails w .settleTimeout c1
  | .visit _ => measurementFails w .settleTimeout c1

/-- The window completes: SWITCH or RETURN begins (R88, R91, R93). -/
def windowCompletes (w : Work) (win : Window) (c : Ctx) : Ctx :=
  let c1 := closeWindow c
  match w.phase with
  | .refAvg => beginSwitch { w with refResult := some win.result } c1
  | _ => beginReturn { w with headResult := some win.result } c1

/-- The window times out: the measurement ends, or RETURN begins (R89, R91, R93). -/
def windowTimesOut (w : Work) (win : Window) (c : Ctx) : Ctx :=
  let c1 := (closeWindow c).note .windowTimeout
  match w.phase with
  | .refAvg => measurementFails w win.cause c1
  | _ => beginReturn { w with cause := some win.cause } c1

/-- The open window after a sample has acted on it: complete, timed out, or still open (R88, R89). -/
def windowAfter (w : Work) (win : Window) (c : Ctx) : Ctx :=
  if win.size ≤ win.collected then windowCompletes w win c
  else if win.limit ≤ win.delivered then windowTimesOut w win c
  else c.setMeas { c.meas with window := some win }

/-- A delivered sample and the open window; a discarded one raises the delivered count alone (R87). -/
def windowSample (w : Work) (x : Sample) (discarded : Bool) (c : Ctx) : Ctx :=
  match c.meas.window with
  | some win => windowAfter w (if discarded then win.deliver else win.deliver.collect x) c
  | none => c

/-- A delivered sample counted against settle_timeout in RETURN and LOOP_SWITCH; at the limit it is a
servo loss (R94, R116, R124). -/
def limitSample (n : Note) (x : Sample) (c : Ctx) : Ctx :=
  let c1 := c.setSweep { c.sweep with phaseLimit := c.sweep.phaseLimit + 1 }
  if c.profile.settleTimeout ≤ c1.sweep.phaseLimit then (servoLoss x.cls c1).note n else c1

/-- A revolution mark and the outstanding write (R109, R118). -/
def writeMark (w : Work) (x : Sample) (c : Ctx) : Ctx :=
  match x.mark, c.pattern.write with
  | true, some n =>
    if Config.writeRevolutions ≤ n + 1 then jogFails w .writeTimeout ((endWrite c).note .writeTimeout)
    else c.setPattern { c.pattern with write := some (n + 1) }
  | _, _ => c

/-- A revolution mark and the open capture (R110, R120). -/
def captureMark (w : Work) (k : Nat) (x : Sample) (c : Ctx) : Ctx :=
  match x.mark, c.pattern.capture with
  | true, some cap =>
    let c1 := c.setPattern { c.pattern with capture := some { cap with revs := cap.revs + 1 } }
    if Config.captureRevolutions ≤ cap.revs + 1 then readEnds w k (c1.note .captureTimeout) else c1
  | _, _ => c

/-- The return LOOP_SWITCH ends on the seeding sample (R124). -/
def returnSwitchEnds (w : Work) (c : Ctx) : Ctx :=
  match w.job, w.formed with
  | .jog h z, some x => stepEnds h z (.jog x) c
  | _, _ => c

/-- Step 4 of R58: the sample and the work in flight. -/
def engineSample (x : Sample) (n : LoopNews) (c : Ctx) : Ctx :=
  match c.sweep.work with
  | none => c
  | some w =>
    match w.phase with
    | .seek =>
      if n.onTrack then settleEnds w c
      else if n.timedOut then settleTimesOut w c
      else if n.atTarget then setWork { w with phase := .settle } c else c
    | .settle =>
      if n.onTrack then settleEnds w c else if n.timedOut then settleTimesOut w c else c
    | .refAvg => windowSample w x false c
    | .switch => c
    | .headAvg => windowSample w x false c
    | .retHead => if x.cls = .position then returnEnds w c else limitSample .returnLimit x c
    | .loopSwitchOut => if n.seeded then beginSeek w c else limitSample .loopSwitchLimit x c
    | .writePass => writeMark w x c
    | .move k =>
      if n.onTrack then beginRead w k c
      else if n.timedOut then settleTimesOut w c
      else if n.atTarget then setWork { w with phase := .settleAt k } c else c
    | .settleAt k =>
      if n.onTrack then beginRead w k c else if n.timedOut then settleTimesOut w c else c
    | .read k => captureMark w k x c
    | .loopSwitchBack =>
      if n.seeded then returnSwitchEnds w c else limitSample .loopSwitchLimit x c
    | .interrupted => c

/-! ### Discarded samples (R55) -/

/-- The armed settle watch counts a discarded sample (R55, R63). -/
def watchDiscarded (c : Ctx) : Ctx × Bool :=
  match c.ctrl.watch with
  | none => (c, false)
  | some n =>
    if c.profile.settleTimeout ≤ n + 1 then (c.setCtrl { c.ctrl with watch := none }, true)
    else (c.setCtrl { c.ctrl with watch := some (n + 1) }, false)

/-- The work in flight and a discarded sample: it ends SWITCH when the wait has reached 0, raises the
delivered count of an open window, and its revolution mark counts (R55, R87, R92, R109, R110). -/
def engineDiscards (x : Sample) (timedOut : Bool) (c : Ctx) : Ctx :=
  match c.sweep.work with
  | none => c
  | some w =>
    match w.phase with
    | .seek => if timedOut then settleTimesOut w c else c
    | .settle => if timedOut then settleTimesOut w c else c
    | .refAvg => windowSample w x true c
    | .switch => if c.ctrl.switchWait = 0 then beginHeadAvg w c else c
    | .headAvg => windowSample w x true c
    | .retHead => c
    | .loopSwitchOut => c
    | .writePass => writeMark w x c
    | .move _ => if timedOut then settleTimesOut w c else c
    | .settleAt _ => if timedOut then settleTimesOut w c else c
    | .read k => captureMark w k x c
    | .loopSwitchBack => c
    | .interrupted => c

/-- Step 1 of R58: the switch wait discards the sample (R55). -/
def discardSample (x : Sample) (c : Ctx) : Ctx :=
  let c1 := c.setCtrl { c.ctrl with switchWait := c.ctrl.switchWait - 1 }
  let c2 := if c1.ctrl.switchWait = 0 then c1.note .switchWaitEnd else c1
  let w := watchDiscarded c2
  if w.1.ctrl.state = .sweep then engineDiscards x w.2 w.1 else w.1

/-! ### A delivered sample (R58) -/

/-- Steps 2 to 4 of R58 in FOLLOW, SWEEP and HELD. -/
def followSample (x : Sample) (c : Ctx) : Ctx :=
  let l := countLoss x c
  if l.2 then l.1
  else
    let s := loopStage x l.1
    if s.1.ctrl.state = .sweep then engineSample x s.2 s.1 else s.1

/-- Steps 1 to 4 of R58. -/
def sampleActs (x : Sample) (c : Ctx) : Ctx :=
  if 0 < c.ctrl.switchWait then discardSample x c
  else
    match c.ctrl.state with
    | .offline => c
    | .idle => c
    | .acquire => acquireSample x c
    | .follow => followSample x c
    | .sweep => followSample x c
    | .held => followSample x c
    | .fault => c

/-- A delivered sample, with its DRIVE record at the end (R58, R66). -/
def handleSample (x : Sample) (c : Ctx) : Ctx :=
  let c1 := sampleActs x c
  c1.send (.drive c1.ctrl.command)

/-- The demodulator completes a wedge of a powered bay (R8). -/
def completeWedge (w : Wedge) (c : Ctx) : Ctx :=
  let r := classify w c
  handleSample r.2 r.1

end Sys2Proof.Machine
end

