-- ==== Sys2Proof/Machine/DemodCmd.lean ====
section
/-! DEFINITION. The shared demodulator: DEMOD_TAKE (R7), DEMOD_COMPLETE (R8), and the events of a delivered
sample with rows of their own. Such a row names the completion that brings its event about, and does
nothing when the wedge in flight brings about no such event (log entry 6). -/

namespace Sys2Proof.Machine

/-! ### Taking a wedge (R7, R29) -/

/-- The order in which the bays are searched after bay `b` was served (R7). -/
def searchOrder (b : BayIx) : List BayIx :=
  [nextBay b, nextBay (nextBay b), nextBay (nextBay (nextBay b)), b]

/-- Whether a bay has a wedge to take. -/
def State.offersWedge (s : State) (b : BayIx) : Bool :=
  !s.offline b && !(s.bays.get b).intake.queue.isEmpty

/-- The warn level after a take that leaves `n` records (R29). -/
def warnAfterTake (p : Profile) (warn : Bool) (n : Nat) : Bool := warn && n + 1 != warnThreshold p

/-- The bay after its oldest record has left the queue. -/
def Bay.takeOldest (b : Bay) : Bay :=
  { b with intake := ⟨b.intake.queue.tail,
      warnAfterTake b.profile b.intake.warn (b.intake.queue.length - 1)⟩ }

/-- The demodulator takes the oldest wedge of a bay (R7). -/
def takeFrom (b : BayIx) (w : Wedge) (s : State) : State :=
  { s with bays := s.bays.set b (s.bays.get b).takeOldest, demod := ⟨some (b, w), b⟩ }

/-- The take of the first bay in search order that offers a wedge, by a FREE demodulator (R7). -/
def demodTake (s : State) : State :=
  match s.demod.busy, (searchOrder s.demod.lastServed).find? s.offersWedge with
  | none, some b =>
    match (s.bays.get b).intake.queue with
    | w :: _ => takeFrom b w s
    | [] => s
  | _, _ => s

/-- DEMOD_TAKE. -/
def execDemodTake (s : State) : Host.Outcome State Fault Refusal := .next (demodTake s)

/-! ### Completion (R8) -/

/-- The demodulator becomes FREE. -/
def State.freeDemod (s : State) : State := { s with demod := { s.demod with busy := none } }

/-- The demodulator completes its wedge (R8). -/
def demodComplete (s : State) : State :=
  match s.demod.busy with
  | none => s
  | some (b, w) =>
    if s.offline b then s.freeDemod else onBay b (completeWedge w) s.freeDemod

/-- DEMOD_COMPLETE. -/
def execDemodComplete (s : State) : Host.Outcome State Fault Refusal := .next (demodComplete s)

/-! ### Events of a completion -/

/-- Whether the wedge in flight is of bay `b` and its completion brings about `n`. -/
def brings (n : Note) (b : BayIx) (s : State) : Bool :=
  match s.demod.busy with
  | none => false
  | some (i, w) => i == b && !s.offline b && (completeWedge w (s.ctx b)).notes.contains n

/-- The completion that brings about `n` in bay `b`. -/
def completeFor (n : Note) (b : BayIx) (s : State) : State := if brings n b s then demodComplete s else s

/-- SERVO_LOSS (R39). -/
def execServoLoss (b : BayIx) (s : State) : Host.Outcome State Fault Refusal :=
  .next (completeFor .servoLoss b s)

/-- SWITCH_WAIT_END (R55). -/
def execSwitchWaitEnd (b : BayIx) (s : State) : Host.Outcome State Fault Refusal :=
  .next (completeFor .switchWaitEnd b s)

/-- SETTLE_TIMEOUT (R63). -/
def execSettleTimeout (b : BayIx) (s : State) : Host.Outcome State Fault Refusal :=
  .next (completeFor .settleTimeout b s)

/-- WINDOW_TIMEOUT (R89). -/
def execWindowTimeout (b : BayIx) (s : State) : Host.Outcome State Fault Refusal :=
  .next (completeFor .windowTimeout b s)

/-- RETURN_LIMIT (R94). -/
def execReturnLimit (b : BayIx) (s : State) : Host.Outcome State Fault Refusal :=
  .next (completeFor .returnLimit b s)

/-- LOOP_SWITCH_LIMIT (R116, R124). -/
def execLoopSwitchLimit (b : BayIx) (s : State) : Host.Outcome State Fault Refusal :=
  .next (completeFor .loopSwitchLimit b s)

/-- WRITE_TIMEOUT (R109). -/
def execWriteTimeout (b : BayIx) (s : State) : Host.Outcome State Fault Refusal :=
  .next (completeFor .writeTimeout b s)

/-- CAPTURE_TIMEOUT (R110). -/
def execCaptureTimeout (b : BayIx) (s : State) : Host.Outcome State Fault Refusal :=
  .next (completeFor .captureTimeout b s)

end Sys2Proof.Machine
end

