-- ==== Sys2Proof/Machine/FixtureCmd.lean ====
section
/-! DEFINITION. Inbound fixture records (R21 to R24): WEDGE at the wedge queue (R28, R29), READBACK at the
checker (R110), WRITE_DONE at the generator (R109), TEMP and FAULT at the thermal supervisor (R154,
R158), and records that are discarded (R22, R23). -/

namespace Sys2Proof.Machine

/-- The warn level at an arrival that leaves `n` records (R29). -/
def warnRises (p : Profile) (q : Intake) (n : Nat) : Bool := !q.warn && n == warnThreshold p

/-- A record joins the tail of the wedge queue (R28, R29). -/
def joinQueue (w : Wedge) (c : Ctx) : Ctx :=
  let q := c.bay.intake.queue ++ [w]
  if warnRises c.profile c.bay.intake q.length then
    raise (.queueWarn q.length c.profile.queueDepth) (c.setIntake ⟨q, true⟩)
  else c.setIntake { c.bay.intake with queue := q }

/-- A record is dropped at a full queue (R28). -/
def dropWedge (w : Wedge) (c : Ctx) : Ctx :=
  raise (.queueOverrun c.bay.intake.queue.length w.head (w.sync.map fun y => y.index)) c

/-- A WEDGE record of a powered bay (R28). -/
def takeWedge (w : Wedge) (c : Ctx) : Ctx :=
  if c.bay.intake.queue.length < c.profile.queueDepth then joinQueue w c else dropWedge w c

/-- An open capture whose last expected block has arrived ends (R110, R120). -/
def endIfComplete (c : Ctx) : Ctx :=
  match c.pattern.capture, c.sweep.work with
  | some cap, some w =>
    match w.phase with
    | .read k => if cap.expected ≤ cap.received then readEnds w k c else c
    | _ => c
  | _, _ => c

/-- A READBACK record of a powered bay (R110). -/
def takeReadback (bits : List Bool) (c : Ctx) : Ctx :=
  match c.pattern.capture with
  | some _ => endIfComplete (takeBlock c bits)
  | none => c

/-- WRITE_PASS ends at a WRITE_DONE (R118, R119). -/
def passEnds (c : Ctx) : Ctx :=
  match c.sweep.work with
  | some w =>
    match w.phase with
    | .writePass => beginMove w 0 c
    | _ => c
  | none => c

/-- A WRITE_DONE record of a powered bay (R109). -/
def takeWriteDone (c : Ctx) : Ctx :=
  match c.pattern.write with
  | some _ => passEnds (endWrite c)
  | none => c

/-- What a powered bay does with a record (R21). -/
def takeRecord : InRecord → Ctx → Ctx
  | .wedge w => takeWedge w
  | .readback bits => takeReadback bits
  | .temp v => takeTemp v
  | .fault active => takeFault active
  | .writeDone => takeWriteDone

/-- Whether a record reaches its block: the bay is powered and the record well formed (R22, R23). -/
def reaches (b : BayIx) (r : InRecord) (s : State) : Bool := !s.offline b && r.wellFormed

/-- WEDGE (R28). -/
def execWedge (b : BayIx) (w : Wedge) (s : State) : Host.Outcome State Fault Refusal :=
  .next (if reaches b (.wedge w) s then onBay b (takeWedge w) s else s)

/-- READBACK (R110). -/
def execReadback (b : BayIx) (bits : List Bool) (s : State) : Host.Outcome State Fault Refusal :=
  .next (if reaches b (.readback bits) s then onBay b (takeReadback bits) s else s)

/-- WRITE_DONE (R109). -/
def execWriteDone (b : BayIx) (s : State) : Host.Outcome State Fault Refusal :=
  .next (if reaches b .writeDone s then onBay b takeWriteDone s else s)

/-- TEMP (R154). -/
def execTemp (b : BayIx) (v : Int) (s : State) : Host.Outcome State Fault Refusal :=
  .next (if reaches b (.temp v) s then onBay b (takeTemp v) s else s)

/-- FAULT (R158). -/
def execFault (b : BayIx) (active : Bool) (s : State) : Host.Outcome State Fault Refusal :=
  .next (if reaches b (.fault active) s then onBay b (takeFault active) s else s)

/-- Bytes that arrive as one fixture record (R22, R23; log entry 20). -/
def recordArrives (b : BayIx) (bytes : List Byte) (s : State) : State :=
  match parseRecord bytes with
  | some r => if reaches b r s then onBay b (takeRecord r) s else s
  | none => s

/-- MALFORMED_RECORD (R22). -/
def execMalformedRecord (b : BayIx) (bytes : List Byte) (s : State) : Host.Outcome State Fault Refusal :=
  .next (recordArrives b bytes s)

end Sys2Proof.Machine
end

