-- ==== Sys2Proof/Machine/LinkCmd.lean ====
section
/-! DEFINITION. The commands of the service link: received bytes (R174, R175), the end of a transmitted
frame (R178), requests of no kind (R177), IDENT (R179), PART_RESET and its effect (R180). -/

namespace Sys2Proof.Machine

/-- RECEIVE_FRAME: bytes arrive on SL_RX, each acting by R175. -/
def execReceiveFrame (bytes : List Byte) (s : State) : Host.Outcome State Fault Refusal :=
  .next (receiveBytes bytes s)

/-- FRAME_SENT: the last byte of the frame on the line leaves (R178); on a free line there is none. -/
def execFrameSent (s : State) : Host.Outcome State Fault Refusal := .next s.endFrame

/-- UNKNOWN_KIND (R177). -/
def execUnknownKind (kind tag : Byte) (body : List Byte) (s : State) : Host.Outcome State Fault Refusal :=
  .next (request kind tag body (!requestKinds.contains kind) (fun s => (s, .unknownKind, [])) s)

/-- An empty body, or BAD_LENGTH (R177 check 2). -/
def emptyBody : List Byte → Option Unit
  | [] => some ()
  | _ => none

/-- IDENT's reply body (R179): family code, revision, bay count, head limit, zone limit. -/
def identBody : List Byte := byte2 0x0416 ++ byte1 1 ++ byte1 4 ++ byte1 Config.heads ++ byte1 Config.zones

/-- IDENT (R179). -/
def execIdent (tag : Byte) (body : List Byte) (s : State) : Host.Outcome State Fault Refusal :=
  .next (request 0x01 tag body true (withFields (emptyBody body) fun _ s => (s, .ok, identBody)) s)

/-- The take of a PART_RESET (R180): the receive queue is emptied and the reset is pending. Its OK reply
is added by the take. -/
def resetPends (s : State) : State :=
  { s with link := { s.link with rxQueue := [], resetPending := true } }

/-- PART_RESET (R180). -/
def execPartReset (tag : Byte) (body : List Byte) (s : State) : Host.Outcome State Fault Refusal :=
  .next (request 0x02 tag body true
    (withFields (emptyBody body) fun _ s => (resetPends s, .ok, [])) s)

/-- PART_RESET_EFFECT: the last byte of the PART_RESET reply leaves (R180; log entry 6). -/
def execPartResetEffect (s : State) : Host.Outcome State Fault Refusal :=
  .next (if s.resetDue then s.endFrame else s)

/-- IMPOSSIBLE_LENGTH: a start byte and two length bytes (R175). -/
def execImpossibleLength (lo hi : Byte) (s : State) : Host.Outcome State Fault Refusal :=
  .next (receiveBytes [Config.startByte, lo, hi] s)

/-- BYTE_FRAMING_ERROR (R174): the byte and the frame in reception are discarded. -/
def execByteFramingError (s : State) : Host.Outcome State Fault Refusal := .next (s.setReceiver .hunting)

end Sys2Proof.Machine
end

