-- ==== Sys2Proof/Machine/SweepCmd.lean ====
section
/-! DEFINITION. The requests to the sweep engine and the event unit: PLAN_LOAD (R133), PROBE (R144),
SWEEP_START (R135, R136), SWEEP_HOLD and SWEEP_RESUME (R146), SWEEP_ABORT (R148), STATUS (R171 to R173)
and EVENT_ROUTE (R169). -/

namespace Sys2Proof.Machine

/-- PLAN_LOAD's option of a body whose length fits. -/
def loadOption (body : List Byte) : Option Nat := (readStepList body).map fun x => x.2.1

/-- PLAN_LOAD's effect. -/
def loadEffect (body : List Byte) : State → State × Reply :=
  withFields (readStepList body) fun x => withBay x.1 (planLoad x.2.1 x.2.2)

/-- PLAN_LOAD replace. -/
def execPlanLoadReplace (tag : Byte) (body : List Byte) (s : State) : Host.Outcome State Fault Refusal :=
  .next (request 0x41 tag body (loadOption body != some 1) (loadEffect body) s)

/-- PLAN_LOAD append. -/
def execPlanLoadAppend (tag : Byte) (body : List Byte) (s : State) : Host.Outcome State Fault Refusal :=
  .next (request 0x41 tag body (loadOption body != some 0) (loadEffect body) s)

/-- PROBE. -/
def execProbe (tag : Byte) (body : List Byte) (s : State) : Host.Outcome State Fault Refusal :=
  .next (request 0x42 tag body true
    (withFields (readStepList body) fun x => withBay x.1 (probeBay x.2.1 x.2.2)) s)

/-- SWEEP_START. -/
def execSweepStart (tag : Byte) (body : List Byte) (s : State) : Host.Outcome State Fault Refusal :=
  .next (request 0x43 tag body true (withFields (readBay body) fun b => withBay b sweepStart) s)

/-- SWEEP_HOLD. -/
def execSweepHold (tag : Byte) (body : List Byte) (s : State) : Host.Outcome State Fault Refusal :=
  .next (request 0x44 tag body true (withFields (readBay body) fun b => withBay b sweepHold) s)

/-- SWEEP_RESUME. -/
def execSweepResume (tag : Byte) (body : List Byte) (s : State) : Host.Outcome State Fault Refusal :=
  .next (request 0x45 tag body true (withFields (readBay body) fun b => withBay b sweepResume) s)

/-- SWEEP_ABORT. -/
def execSweepAbort (tag : Byte) (body : List Byte) (s : State) : Host.Outcome State Fault Refusal :=
  .next (request 0x46 tag body true (withFields (readBay body) fun b => withBay b sweepAbort) s)

/-- The overflow flag cleared when a mask names it (R173). -/
def State.clearOverflow (s : State) (mask : Nat) : State :=
  if maskOverflow mask then { s with events := { s.events with overflow := false } } else s

/-- STATUS of a bay (R171 to R173). -/
def statusOf (b : BayIx) (mask : Nat) (s : State) : State × Reply :=
  if maskInvalid mask then (s, .badArg, [])
  else
    let r := onBayReply b (statusOfBay mask s.events) s
    (r.1.clearOverflow mask, r.2)

/-- STATUS's effect. -/
def statusEffect (body : List Byte) : State → State × Reply :=
  withFields (readStatus body) fun x s =>
    match bayOfByte x.1 with
    | none => (s, .badBay, [])
    | some b => statusOf b x.2 s

/-- STATUS. -/
def execStatus (tag : Byte) (body : List Byte) (s : State) : Host.Outcome State Fault Refusal :=
  .next (request 0x50 tag body true (statusEffect body) s)

/-- EVENT_ROUTE. -/
def execEventRoute (tag : Byte) (body : List Byte) (s : State) : Host.Outcome State Fault Refusal :=
  .next (request 0x51 tag body true
    (withFields (readRoute body) fun x => withBay x.1 (eventRoute x.2)) s)

end Sys2Proof.Machine
end

