-- ==== Sys2Proof/Machine/MapCmd.lean ====
section
/-! DEFINITION. The requests on the Head Map (R83 to R85): reading entries, accepting and clearing them.
Each answers the bay at work after it and the reply, status first. -/

namespace Sys2Proof.Machine

/-! ### Entries as bytes (section 10.7.3) -/

/-- An offset part; a part whose status is ABSENT is sent as 0 (R184). -/
def offsetBytes : Option OffsetPart → List Byte
  | none => List.replicate 24 0
  | some x =>
      byte1 x.status.code ++ byte1 (causeCode x.cause) ++ byte1 (causeCode x.finding) ++
        presenceByte [x.raw.isSome, x.correction.isSome, x.seq.isSome, x.temp.isSome,
          x.amplitude.isSome, x.spread.isSome, x.reported.isSome] ++
        byte2 (x.raw.getD 0) ++ byte4 (x.correction.getD 0) ++ byte4 (x.reported.getD 0) ++
        byte2 x.sweep ++ seqBytes x.seq ++ tempBytes x.temp ++ byte2 (x.amplitude.getD 0) ++
        byte2 (x.spread.getD 0)

/-- A position result: its mismatch count, NO_LOCK or MISSING. -/
def PosResult.bytes : PosResult → List Byte
  | .count n => byte2 n
  | .noLock => byte2 65534
  | .missing => byte2 65535

/-- A jog part; a part whose status is ABSENT is sent as 0 (R184). -/
def jogBytes : Option JogPart → List Byte
  | none => List.replicate 18 0
  | some x =>
      byte1 x.status.code ++ byte1 (causeCode x.cause) ++
        presenceByte [x.jog.isSome, x.profile.isSome, x.seq.isSome, x.temp.isSome] ++
        (match x.jog with
          | some (jog, win) => byte2 jog ++ byte2 win
          | none => byte2 0 ++ byte2 0) ++
        (match x.profile with
          | some p => byte2 p.step ++ byte2 p.first
          | none => byte2 0 ++ byte2 0) ++
        byte2 x.sweep ++ seqBytes x.seq ++ tempBytes x.temp ++
        (match x.profile with
          | some p => byte1 p.results.length ++ p.results.flatMap PosResult.bytes
          | none => byte1 0)

/-- A map entry of MAP_READ. -/
def entryBytes (zone : Nat) (e : Entry) : List Byte :=
  byte1 zone ++ flagByte e.accepted ++ offsetBytes e.offset ++ jogBytes e.jog

/-- Bytes that a reply body leaves for MAP_READ's entries: 1020, less the status and four items. -/
def mapReadRoom : Nat := 1015

/-- As many entries as fit whole, from the first on (R83). -/
def fitEntries : Nat → List (List Byte) → List (List Byte)
  | _, [] => []
  | room, e :: rest => if e.length ≤ room then e :: fitEntries (room - e.length) rest else []

/-! ### Ranges -/

/-- The numbers from `a` to `b`. -/
def span (a b : Nat) : List Nat := (List.range (b + 1 - a)).map (a + ·)

/-- The range test of R84 and R85. -/
def rangeFits (r : MapRange) : Bool :=
  decide (r.head0 ≤ r.head1) && decide (r.head1 < Config.heads) && decide (r.zone0 ≤ r.zone1) &&
    decide (r.zone1 < Config.zones)

/-- The named entries in head-major order (R84). -/
def rangeNamed (r : MapRange) : List (Nat × Nat) :=
  (span r.head0 r.head1).flatMap fun h => (span r.zone0 r.zone1).map fun z => (h, z)

/-! ### The requests -/

/-- MAP_READ (R83). -/
def mapRead (head zone0 zone1 : Nat) (c : Ctx) : Ctx × Reply :=
  if Config.heads ≤ head ∨ Config.zones ≤ zone0 ∨ Config.zones ≤ zone1 ∨ zone1 < zone0 then
    (c, .badArg, [])
  else
    let entries := fitEntries mapReadRoom
      ((span zone0 zone1).map fun z => entryBytes z (mapGet c.bay.map head z))
    (c, .ok, c.id.byte :: (byte1 head ++ byte1 zone0 ++ byte1 entries.length ++ entries.flatten))

/-- A named entry as MAP_ACCEPT leaves it (R84). -/
def Entry.accept (e : Entry) : Entry := if e.provisional then e else { e with accepted := true }

/-- The map with each named entry changed by `f`. -/
def mapNamed (f : Entry → Entry) (named : List (Nat × Nat)) (m : Table Entry) : Table Entry :=
  named.foldl (fun m hz => mapPut m hz.1 hz.2 (f (mapGet m hz.1 hz.2))) m

/-- MAP_ACCEPT (R84). -/
def mapAccept (r : MapRange) (c : Ctx) : Ctx × Reply :=
  if rangeFits r then
    let m := mapNamed Entry.accept (rangeNamed r) c.bay.map
    let marked := (rangeNamed r).countP fun hz => (mapGet m hz.1 hz.2).accepted
    (c.setMap m, .ok, byte2 marked ++ byte2 (((rangeNamed r).length : Int) - marked))
  else (c, .badArg, [])

/-- What a MAP_CLEAR option makes of an entry; full is 0 (R85). -/
def Entry.clear (option : Nat) (e : Entry) : Entry :=
  if option = 0 then Entry.empty else { e with accepted := false }

/-- MAP_CLEAR (R85). -/
def mapClear (r : MapRange) (option : Nat) (c : Ctx) : Ctx × Reply :=
  if rangeFits r ∧ option ≤ 1 then
    if c.sweep.active then (c, .busy, [])
    else (c.setMap (mapNamed (Entry.clear option) (rangeNamed r) c.bay.map), .ok, byte2 (rangeNamed r).length)
  else (c, .badArg, [])

end Sys2Proof.Machine
end

