-- ==== Sys2Proof/Machine/TableCmd.lean ====
section
/-! DEFINITION. The requests on the Head Map, the reference log, the counters and the zone table: MAP_READ,
MAP_ACCEPT, MAP_CLEAR (R83 to R85), REF_LOG (R105), SELF_CHECK (R108), COUNTERS (R127), ZONE_SET
(R131). -/

namespace Sys2Proof.Machine

/-- MAP_READ. -/
def execMapRead (tag : Byte) (body : List Byte) (s : State) : Host.Outcome State Fault Refusal :=
  .next (request 0x20 tag body true
    (withFields (readMapRead body) fun x => withBay x.1 (mapRead x.2.1 x.2.2.1 x.2.2.2)) s)

/-- MAP_ACCEPT. -/
def execMapAccept (tag : Byte) (body : List Byte) (s : State) : Host.Outcome State Fault Refusal :=
  .next (request 0x21 tag body true
    (withFields (readMapAccept body) fun x => withBay x.1 (mapAccept x.2)) s)

/-- The option of a MAP_CLEAR body whose length fits. -/
def clearOption (body : List Byte) : Option Nat := (readMapClear body).map fun x => x.2.2

/-- MAP_CLEAR's effect (R85). -/
def clearEffect (body : List Byte) : State → State × Reply :=
  withFields (readMapClear body) fun x => withBay x.1 (mapClear x.2.1 x.2.2)

/-- MAP_CLEAR full. -/
def execMapClearFull (tag : Byte) (body : List Byte) (s : State) : Host.Outcome State Fault Refusal :=
  .next (request 0x22 tag body (clearOption body != some 1) (clearEffect body) s)

/-- MAP_CLEAR marks only. -/
def execMapClearMarksOnly (tag : Byte) (body : List Byte) (s : State) : Host.Outcome State Fault Refusal :=
  .next (request 0x22 tag body (clearOption body != some 0) (clearEffect body) s)

/-- REF_LOG. -/
def execRefLog (tag : Byte) (body : List Byte) (s : State) : Host.Outcome State Fault Refusal :=
  .next (request 0x28 tag body true (withFields (readBay body) fun b => withBay b refLog) s)

/-! ### COUNTERS (R127) -/

/-- The four bays with each changed by `f`. -/
def PerBay.map (f : Bay → Bay) (p : PerBay Bay) : PerBay Bay := ⟨f p.b0, f p.b1, f p.b2, f p.b3⟩

/-- SNAPSHOT, whichever bay is named: all four bays at one event. -/
def countersSnapshot (s : State) : State × Reply :=
  ({ s with bays := s.bays.map Bay.snapshot }, .ok, [])

/-- COUNTERS of all bays. -/
def countersAll (option : Nat) (s : State) : State × Reply :=
  if option = 0 then countersSnapshot s
  else if option = 2 then ({ s with bays := s.bays.map Bay.resetCounters }, .ok, [])
  else (s, .badArg, [])

/-- COUNTERS of one bay. -/
def countersOne (b : BayIx) (option : Nat) (s : State) : State × Reply :=
  if option = 0 then countersSnapshot s
  else if option = 1 then onBayReply b countersRead s
  else if option = 2 then ({ s with bays := s.bays.set b (s.bays.get b).resetCounters }, .ok, [])
  else (s, .badArg, [])

/-- COUNTERS: ALL is 0xFF. -/
def countersEffect (body : List Byte) : State → State × Reply :=
  withFields (readBayOption body) fun x s =>
    if x.1 = 0xFF then countersAll x.2 s
    else
      match bayOfByte x.1 with
      | none => (s, .badBay, [])
      | some b => countersOne b x.2 s

/-- The option of a COUNTERS body whose length fits. -/
def countersOption (body : List Byte) : Option Nat := (readBayOption body).map Prod.snd

/-- COUNTERS SNAPSHOT. -/
def execCountersSnapshot (tag : Byte) (body : List Byte) (s : State) : Host.Outcome State Fault Refusal :=
  .next (request 0x30 tag body (countersOption body != some 1 && countersOption body != some 2)
    (countersEffect body) s)

/-- COUNTERS READ. -/
def execCountersRead (tag : Byte) (body : List Byte) (s : State) : Host.Outcome State Fault Refusal :=
  .next (request 0x30 tag body (countersOption body != some 0 && countersOption body != some 2)
    (countersEffect body) s)

/-- COUNTERS RESET. -/
def execCountersReset (tag : Byte) (body : List Byte) (s : State) : Host.Outcome State Fault Refusal :=
  .next (request 0x30 tag body (countersOption body != some 0 && countersOption body != some 1)
    (countersEffect body) s)

/-- SELF_CHECK. -/
def execSelfCheck (tag : Byte) (body : List Byte) (s : State) : Host.Outcome State Fault Refusal :=
  .next (request 0x31 tag body true (withFields (readBay body) fun b => withBay b selfCheck) s)

/-! ### ZONE_SET (R131) -/

/-- ZONE_SET's option of a body whose length fits. -/
def zoneOption (body : List Byte) : Option ZoneOption := (readZoneSet body).map fun x => x.2.2

/-- Whether a body asks to undefine a zone. -/
def asksUndefine (body : List Byte) : Bool := zoneOption body == some .undefine

/-- Whether a body asks to define a zone. -/
def asksDefine (body : List Byte) : Bool :=
  match zoneOption body with
  | some (.define _ _ _) => true
  | some .undefine => false
  | some .other => false
  | none => false

/-- ZONE_SET's effect. -/
def zoneEffect (body : List Byte) : State → State × Reply :=
  withFields (readZoneSet body) fun x => withBay x.1 (zoneSet x.2.1 x.2.2)

/-- ZONE_SET define. -/
def execZoneSetDefine (tag : Byte) (body : List Byte) (s : State) : Host.Outcome State Fault Refusal :=
  .next (request 0x40 tag body (!asksUndefine body) (zoneEffect body) s)

/-- ZONE_SET undefine. -/
def execZoneSetUndefine (tag : Byte) (body : List Byte) (s : State) : Host.Outcome State Fault Refusal :=
  .next (request 0x40 tag body (!asksDefine body) (zoneEffect body) s)

end Sys2Proof.Machine
end

