-- ==== Sys2Proof/Machine/Dispatch.lean ====
section
/-! DEFINITION. The dispatch: each command to its meaning. -/

namespace Sys2Proof.Machine

/-- The effect of a command on everything but the queue of waiting commands. -/
def exec (i : Instr) (s : State) : Host.Outcome State Fault Refusal :=
  match i with
  | .powerOn b => Sys2Proof.Machine.execPowerOn b s
  | .timeBaseTick o => Sys2Proof.Machine.execTimeBaseTick o s
  | .acquireTimeout b => Sys2Proof.Machine.execAcquireTimeout b s
  | .sensorStale b => Sys2Proof.Machine.execSensorStale b s
  | .wedge b w => Sys2Proof.Machine.execWedge b w s
  | .readback b bits => Sys2Proof.Machine.execReadback b bits s
  | .writeDone b => Sys2Proof.Machine.execWriteDone b s
  | .temp b v => Sys2Proof.Machine.execTemp b v s
  | .fault b active => Sys2Proof.Machine.execFault b active s
  | .malformedRecord b bytes => Sys2Proof.Machine.execMalformedRecord b bytes s
  | .demodTake => Sys2Proof.Machine.execDemodTake s
  | .demodComplete => Sys2Proof.Machine.execDemodComplete s
  | .servoLoss b => Sys2Proof.Machine.execServoLoss b s
  | .switchWaitEnd b => Sys2Proof.Machine.execSwitchWaitEnd b s
  | .settleTimeout b => Sys2Proof.Machine.execSettleTimeout b s
  | .windowTimeout b => Sys2Proof.Machine.execWindowTimeout b s
  | .returnLimit b => Sys2Proof.Machine.execReturnLimit b s
  | .loopSwitchLimit b => Sys2Proof.Machine.execLoopSwitchLimit b s
  | .writeTimeout b => Sys2Proof.Machine.execWriteTimeout b s
  | .captureTimeout b => Sys2Proof.Machine.execCaptureTimeout b s
  | .receiveFrame bytes => Sys2Proof.Machine.execReceiveFrame bytes s
  | .frameSent => Sys2Proof.Machine.execFrameSent s
  | .unknownKind kind tag body => Sys2Proof.Machine.execUnknownKind kind tag body s
  | .ident tag body => Sys2Proof.Machine.execIdent tag body s
  | .partReset tag body => Sys2Proof.Machine.execPartReset tag body s
  | .partResetEffect => Sys2Proof.Machine.execPartResetEffect s
  | .bayProfile tag body => Sys2Proof.Machine.execBayProfile tag body s
  | .bayPowerOn tag body => Sys2Proof.Machine.execBayPowerOn tag body s
  | .bayPowerOff tag body => Sys2Proof.Machine.execBayPowerOff tag body s
  | .move tag body => Sys2Proof.Machine.execMove tag body s
  | .stop tag body => Sys2Proof.Machine.execStop tag body s
  | .clear tag body => Sys2Proof.Machine.execClear tag body s
  | .mapRead tag body => Sys2Proof.Machine.execMapRead tag body s
  | .mapAccept tag body => Sys2Proof.Machine.execMapAccept tag body s
  | .mapClearFull tag body => Sys2Proof.Machine.execMapClearFull tag body s
  | .mapClearMarksOnly tag body => Sys2Proof.Machine.execMapClearMarksOnly tag body s
  | .refLog tag body => Sys2Proof.Machine.execRefLog tag body s
  | .countersSnapshot tag body => Sys2Proof.Machine.execCountersSnapshot tag body s
  | .countersRead tag body => Sys2Proof.Machine.execCountersRead tag body s
  | .countersReset tag body => Sys2Proof.Machine.execCountersReset tag body s
  | .selfCheck tag body => Sys2Proof.Machine.execSelfCheck tag body s
  | .zoneSetDefine tag body => Sys2Proof.Machine.execZoneSetDefine tag body s
  | .zoneSetUndefine tag body => Sys2Proof.Machine.execZoneSetUndefine tag body s
  | .planLoadReplace tag body => Sys2Proof.Machine.execPlanLoadReplace tag body s
  | .planLoadAppend tag body => Sys2Proof.Machine.execPlanLoadAppend tag body s
  | .probe tag body => Sys2Proof.Machine.execProbe tag body s
  | .sweepStart tag body => Sys2Proof.Machine.execSweepStart tag body s
  | .sweepHold tag body => Sys2Proof.Machine.execSweepHold tag body s
  | .sweepResume tag body => Sys2Proof.Machine.execSweepResume tag body s
  | .sweepAbort tag body => Sys2Proof.Machine.execSweepAbort tag body s
  | .status tag body => Sys2Proof.Machine.execStatus tag body s
  | .eventRoute tag body => Sys2Proof.Machine.execEventRoute tag body s
  | .impossibleLength lo hi => Sys2Proof.Machine.execImpossibleLength lo hi s
  | .byteFramingError => Sys2Proof.Machine.execByteFramingError s

end Sys2Proof.Machine
end

