-- ==== Sys2Proof/Safety.lean ====
section
/-! DEFINITION. The spec's laws as properties of a state, and the shapes in which claims describe a next
state: a bay's work committed, a request taken and answered. -/

namespace Sys2Proof.Machine

/-! ### Laws of one bay -/

/-- The law of the wedge queue (R26). -/
abbrev Bay.queueLaw (b : Bay) : Prop := b.intake.queue.length ≤ b.profile.queueDepth

/-- What an OFFLINE bay's queue is (R23, R30), without which a change of depth could break the law of the
queue. -/
abbrev Bay.offlineEmpty (b : Bay) : Prop := b.ctrl.state = .offline → b.intake.queue = []

/-- The law of the plan store (R132). -/
abbrev Bay.storeLaw (b : Bay) : Prop := b.store.length ≤ Config.planSteps

/-- The law of the counters (R126). -/
abbrev Bay.counterLaw (b : Bay) : Prop :=
  b.pattern.running.mismatches ≤ 65535 ∧ b.pattern.running.mismatches ≤ b.pattern.running.checked

/-- The law of the command (R64). -/
abbrev Bay.commandLaw (b : Bay) : Prop :=
  b.ctrl.command.natAbs ≤ b.profile.currentLimit ∧
    (b.ctrl.state = .offline → b.ctrl.command = 0) ∧
    (b.ctrl.state = .fault → b.ctrl.command = parkOutput b.profile)

/-- The second half of the law of the accepted mark (R78): no marked entry has a PROVISIONAL offset
part. -/
abbrev Bay.markLaw (b : Bay) : Prop := ∀ kv ∈ b.map, kv.2.accepted = true → kv.2.provisional = false

/-- The Head Map and the zone table are in their canonical form. -/
abbrev Bay.tablesLaw (b : Bay) : Prop := Table.wf Entry.empty b.map = true ∧ Table.wf none b.zones = true

/-! ### Laws of the sweep -/

/-- Where a bay is while its sweep is active (R134, last sentence), and that no other bay is there. -/
abbrev Bay.activeLaw (b : Bay) : Prop :=
  b.sweep.active = true ↔ b.ctrl.state = .sweep ∨ b.ctrl.state = .held ∨
    (b.ctrl.state = .acquire ∧ b.acq.intent = .sweep)

/-- Whether a plan, if it is a probe, has from `least` to 7 steps left. -/
def Plan.stepsLeft (least : Nat) : Plan → Bool
  | .base _ => true
  | .probe _ steps => decide (least ≤ steps.length) && decide (steps.length ≤ 7)

/-- The law of the resume stack (R140), with what R134 says of the current plan and the pending probe,
on which it rests. -/
abbrev Bay.stackLaw (b : Bay) : Prop :=
  b.sweep.stack.length ≤ Config.stackDepth ∧
    (∀ p ∈ b.sweep.stack, p.stepsLeft 1 = true) ∧
    (∀ p ∈ b.sweep.plan, p.stepsLeft 0 = true) ∧
    (∀ q ∈ b.sweep.probe, 1 ≤ q.2.length ∧ q.2.length ≤ Config.probeSteps)

/-- The phases of a measurement from the moment its sequence number is taken (R90, R98). -/
def Phase.measuring : Phase → Bool
  | .refAvg => true
  | .switch => true
  | .headAvg => true
  | .retHead => true
  | .seek => false
  | .settle => false
  | .loopSwitchOut => false
  | .writePass => false
  | .move _ => false
  | .settleAt _ => false
  | .read _ => false
  | .loopSwitchBack => false
  | .interrupted => false

/-- Whether the work is a visit. -/
def Work.isVisit (w : Work) : Bool :=
  match w.job with
  | .visit _ => true
  | .offset _ _ => false
  | .jog _ _ => false

/-- Whether the work is an OFFSET step. -/
def Work.isOffset (w : Work) : Bool :=
  match w.job with
  | .offset _ _ => true
  | .jog _ _ => false
  | .visit _ => false

/-- Whether the work's sequence number, if it holds one, is above every number in the log, and it holds
one while it measures. -/
abbrev Work.newest (w : Work) (log : List RefRecord) : Prop :=
  (∀ n ∈ w.seq, ∀ r ∈ log, r.seq < n) ∧ (w.phase.measuring = true → w.seq ≠ none)

/-- The law of the reference log (R99): at most 64 records, in strictly increasing sequence order. It
rests on the sequence counter, which is above every number given, and on the number of the visit in
flight, which is above every number in the log. -/
abbrev Bay.logLaw (b : Bay) : Prop :=
  b.meas.log.length ≤ Config.logSize ∧ (b.meas.log.map RefRecord.seq).Pairwise (· < ·) ∧
    (∀ r ∈ b.meas.log, r.seq < b.sweep.seqNext) ∧
    ∀ w ∈ b.sweep.work, (∀ n ∈ w.seq, n < b.sweep.seqNext) ∧
      (w.isVisit = true → w.newest b.meas.log)

/-- The law of provisional parts (R72): an offset part is PROVISIONAL only while the sweep is active, and
then its sequence number is above that of every record of the log, which is not empty. -/
abbrev Bay.provisionalLaw (b : Bay) : Prop :=
  ∀ kv ∈ b.map, ∀ x ∈ kv.2.offset, x.status = .provisional →
    b.sweep.active = true ∧ b.meas.log ≠ [] ∧ x.seq ≠ none ∧ ∀ n ∈ x.seq, ∀ r ∈ b.meas.log, r.seq < n

/-- What the law of provisional parts rests on: work is in flight only while the sweep is active, and an
OFFSET step in flight has a log to be corrected by and a number above those in it, as an inline visit
has a log (R100, R142). -/
abbrev Bay.offsetLaw (b : Bay) : Prop :=
  ∀ w ∈ b.sweep.work, b.sweep.active = true ∧
    (w.isOffset = true → b.meas.log ≠ [] ∧ w.newest b.meas.log) ∧
    (w.job = .visit .onTrigger → b.meas.log ≠ [])

/-- The phases in which a bay's two heads may differ (R57). -/
def Phase.switched (p : Phase) : Bool := p == .switch || p == .headAvg || p == .retHead

/-- Whether the work is a JOG step in a phase that follows the measured head (section 6.4), or waits in
ACQUIRE to follow it again. -/
def Work.onMeasured (w : Work) : Bool :=
  match w.job with
  | .jog _ _ => !w.phase.measuring && w.phase != .loopSwitchBack
  | .offset _ _ => false
  | .visit _ => false

/-- The law of the two heads (R57). -/
abbrev Bay.headsLaw (b : Bay) : Prop :=
  b.ctrl.loopHead = b.ctrl.selHead ∨ ∃ w ∈ b.sweep.work, w.phase.switched = true

/-- What the law of the two heads rests on: work is in flight only while the sweep is active, and none in
HELD; the loop follows ref_head but in a JOG step's phases on the measured head; the heads differ only in
SWEEP; and RETURN has selected ref_head (R53, R92, R94, R116, R124, R137). -/
abbrev Bay.loopLaw (b : Bay) : Prop :=
  (b.sweep.work ≠ none → b.sweep.active = true ∧ b.ctrl.state ≠ .held) ∧
    (b.sweep.active = true → b.ctrl.loopHead = b.profile.refHead ∨
      ∃ w ∈ b.sweep.work, w.onMeasured = true) ∧
    (∀ w ∈ b.sweep.work, (w.phase.switched = true → b.ctrl.state = .sweep) ∧
      (w.phase = .retHead → b.ctrl.selHead = b.profile.refHead))

/-! ### Laws of the link -/

/-- The laws of the link's queues and lists (R170, R176, R178), and a free line with nothing to send. -/
abbrev State.linkLaw (s : State) : Prop :=
  s.events.frames.length ≤ Config.eventQueueSize ∧
    s.link.rxQueue.length ≤ Config.receiveQueueSize ∧
    (s.link.replies.countP fun a => !a.taken) ≤ Config.queueFullAnswers ∧
    (s.link.replies.countP fun a => a.taken) ≤ 1 ∧
    (s.link.line = none → s.link.replies = [] ∧ s.events.frames = [])

/-! ### Shapes of a next state -/

/-- The part with bay `b` left as `x`, having offered `frames` and sent `records`. -/
def State.leaves (s : State) (b : BayIx) (x : Bay) (frames : List EventFrame)
    (records : List OutRecord) : State := commit ⟨b, x, frames, records, []⟩ s

/-- The link takes `f` as soon as its row comes: the frame stands oldest and nothing holds it up
(R177). -/
abbrev State.takes (s : State) (f : Frame) : Prop :=
  s.link.rxQueue.head? = some f ∧ s.link.ready = true

/-- `f` is taken and answered with `status` and `reply`, with no other effect. -/
def State.answers (s : State) (f : Frame) (status : Status) (reply : List Byte) : State :=
  addAnswer s.takeFrame ⟨f.kind, f.tag, status, reply, true⟩

/-- `f` is taken, bay `b` is left as `x` with what it offered and sent, and `f` is answered. -/
def State.grants (s : State) (f : Frame) (b : BayIx) (x : Bay) (frames : List EventFrame)
    (records : List OutRecord) (status : Status) (reply : List Byte) : State :=
  addAnswer (s.takeFrame.leaves b x frames records) ⟨f.kind, f.tag, status, reply, true⟩

/-- The frame that a request row carries, and whether the row owns it: a row named for one option of its
kind does not own a frame whose option byte is another row's (log entry 5). -/
def requestOf : Instr → Option (Frame × Bool)
  | .unknownKind kind tag body => some (⟨kind, tag, body⟩, !requestKinds.contains kind)
  | .ident tag body => some (⟨0x01, tag, body⟩, true)
  | .partReset tag body => some (⟨0x02, tag, body⟩, true)
  | .bayProfile tag body => some (⟨0x03, tag, body⟩, true)
  | .bayPowerOn tag body => some (⟨0x10, tag, body⟩, optionOf body != some 0)
  | .bayPowerOff tag body => some (⟨0x10, tag, body⟩, optionOf body != some 1)
  | .move tag body => some (⟨0x11, tag, body⟩, true)
  | .stop tag body => some (⟨0x12, tag, body⟩, true)
  | .clear tag body => some (⟨0x13, tag, body⟩, true)
  | .mapRead tag body => some (⟨0x20, tag, body⟩, true)
  | .mapAccept tag body => some (⟨0x21, tag, body⟩, true)
  | .mapClearFull tag body => some (⟨0x22, tag, body⟩, clearOption body != some 1)
  | .mapClearMarksOnly tag body => some (⟨0x22, tag, body⟩, clearOption body != some 0)
  | .refLog tag body => some (⟨0x28, tag, body⟩, true)
  | .countersSnapshot tag body =>
      some (⟨0x30, tag, body⟩, countersOption body != some 1 && countersOption body != some 2)
  | .countersRead tag body =>
      some (⟨0x30, tag, body⟩, countersOption body != some 0 && countersOption body != some 2)
  | .countersReset tag body =>
      some (⟨0x30, tag, body⟩, countersOption body != some 0 && countersOption body != some 1)
  | .selfCheck tag body => some (⟨0x31, tag, body⟩, true)
  | .zoneSetDefine tag body => some (⟨0x40, tag, body⟩, !asksUndefine body)
  | .zoneSetUndefine tag body => some (⟨0x40, tag, body⟩, !asksDefine body)
  | .planLoadReplace tag body => some (⟨0x41, tag, body⟩, loadOption body != some 1)
  | .planLoadAppend tag body => some (⟨0x41, tag, body⟩, loadOption body != some 0)
  | .probe tag body => some (⟨0x42, tag, body⟩, true)
  | .sweepStart tag body => some (⟨0x43, tag, body⟩, true)
  | .sweepHold tag body => some (⟨0x44, tag, body⟩, true)
  | .sweepResume tag body => some (⟨0x45, tag, body⟩, true)
  | .sweepAbort tag body => some (⟨0x46, tag, body⟩, true)
  | .status tag body => some (⟨0x50, tag, body⟩, true)
  | .eventRoute tag body => some (⟨0x51, tag, body⟩, true)
  | .powerOn _ => none
  | .timeBaseTick _ => none
  | .acquireTimeout _ => none
  | .sensorStale _ => none
  | .wedge _ _ => none
  | .readback _ _ => none
  | .writeDone _ => none
  | .temp _ _ => none
  | .fault _ _ => none
  | .malformedRecord _ _ => none
  | .demodTake => none
  | .demodComplete => none
  | .servoLoss _ => none
  | .switchWaitEnd _ => none
  | .settleTimeout _ => none
  | .windowTimeout _ => none
  | .returnLimit _ => none
  | .loopSwitchLimit _ => none
  | .writeTimeout _ => none
  | .captureTimeout _ => none
  | .receiveFrame _ => none
  | .frameSent => none
  | .partResetEffect => none
  | .impossibleLength _ _ => none
  | .byteFramingError => none

/-- A bay after a tick that expires none of its timers (R153): the acquisition timer counts in ACQUIRE
(R35), the staleness timer while it runs (R155), the revisit time while the sweep is active (R101). -/
def Bay.ticked (x : Bay) : Bay :=
  { x with
    acq := if x.ctrl.state = .acquire then { x.acq with elapsed := x.acq.elapsed + 1 } else x.acq
    thermal := if x.thermal.staleRunning = true then
        { x.thermal with staleTimer := x.thermal.staleTimer + 1 } else x.thermal
    meas := if x.sweep.active = true then
        { x.meas with elapsed := satInc Config.revisitElapsedMax x.meas.elapsed } else x.meas }

/-- The bay after raising an event of kind `k` (R166): the kind's flag is set, and under HOLD EVENT joins
an active sweep's hold causes. -/
def Bay.raising (x : Bay) (k : EventKind) : Bay :=
  { x with
    unit := x.unit.setFlag k
    sweep := if x.unit.disposition k = .hold ∧ x.sweep.active = true then
        { x.sweep with holds := { x.sweep.holds with event := true } } else x.sweep }

/-- The bay after a thermal cause has joined or left its hold-cause set, which changes only while the
sweep is active (R145). -/
def Bay.holding (x : Bay) (cause : HoldCause) (present : Bool) : Bay :=
  { x with
    sweep := if x.sweep.active = true then { x.sweep with holds := x.sweep.holds.put cause present }
      else x.sweep }

/-- The event frames that raising `d` for bay `b` offers, by the disposition of its kind (R166). -/
def EventUnit.offers (u : EventUnit) (b : BayIx) (d : Details) : List EventFrame :=
  match u.disposition d.kind with
  | .latch => []
  | .notify => [⟨b, d⟩]
  | .hold => [⟨b, d⟩]

/-- The DRIVE record that a change of the command sends (R66). -/
def driveIfChanged (old new : Int) : List OutRecord := if new = old then [] else [.drive new]

/-- The HEAD record that a head select sends (R55). -/
def headIfChanged (old new : Nat) : List OutRecord := if new = old then [] else [.head new]

/-- The bay controller after a loop update at `pos` (R59, R60, R62): target_now slews toward target_final,
the command is bias + P + D clamped to the current limit, and the settle count rises on target within the
window and is 0 otherwise. -/
def Ctrl.updated (k : Ctrl) (p : Profile) (pos now final : Int) : Ctrl :=
  let target := if (final - now).natAbs ≤ p.slewPu then final
    else if now < final then now + p.slewPu else now - p.slewPu
  let e := max (-32767) (min 32767 (target - pos))
  let d := match k.prevErr with
    | some q => (p.kd * (e - q)).tdiv 64
    | none => 0
  { k with
    targetNow := some target
    prevErr := some e
    command := max (-(p.currentLimit : Int)) (min p.currentLimit (p.bias + (p.kp * e).tdiv 64 + d))
    settle := if ¬ (e.natAbs ≤ p.onTrackWindow ∧ target = final) then 0
      else if k.settle < 255 then k.settle + 1 else k.settle }

/-- The bay controller after the loop received a sample: a POSITION sample of the loop head updates a seeded
loop and seeds an unseeded one (R56); every other sample, and every sample while frozen, is held, which
sets the settle count to 0 and no more (R61, R62). -/
def Ctrl.heard (k : Ctrl) (p : Profile) (y : Sample) : Ctrl :=
  if k.frozen = true ∨ y.cls ≠ .position ∨ y.head ≠ k.loopHead then { k with settle := 0 }
  else
    match y.position, k.targetNow, k.targetFinal with
    | some pos, some now, some final => k.updated p pos now final
    | some pos, none, _ => { k with targetNow := some pos, settle := 0 }
    | _, _, _ => { k with settle := 0 }

/-- The bay after loss counting and the loop have had a sample that is no servo loss (R31, R38): NO_SYNC
and FOREIGN raise the loss count and the other classes reset it, but for a selected head that is not the
loop head. -/
def Bay.heard (x : Bay) (y : Sample) : Bay :=
  { x with
    acq := if x.ctrl.selHead ≠ x.ctrl.loopHead then x.acq
      else if y.cls = .noSync ∨ y.cls = .foreign then { x.acq with loss := x.acq.loss + 1 }
      else { x.acq with loss := 0 }
    ctrl := x.ctrl.heard x.profile y }

/-- The bay is HELD, SWEEP_RESUME leaves it no hold cause, and its boundary comes to step 4: the log is not
empty, no trigger is due, and the reference zone is `z` (R101, R138, R146). -/
abbrev Bay.canStep (x : Bay) (z : Zone) : Prop :=
  x.sweep.active = true ∧ x.ctrl.state = .held ∧
    ({ x.sweep.holds with host := false, event := false } : Holds).isEmpty = true ∧ x.meas.log ≠ [] ∧
    x.meas.dueCount = false ∧ x.meas.dueTime = false ∧ x.meas.dueTemp = false ∧
    x.meas.offsetCount < x.profile.revisitCount ∧ x.meas.elapsed < x.profile.revisitMs ∧
    (∀ t ∈ x.thermal.temp, ∀ r ∈ x.thermal.lastRef, (t - r).natAbs < x.profile.revisitDelta) ∧
    x.sweep.seqNext < 65536 ∧ zoneGet x.zones x.profile.refZone = some z ∧ z.track ≤ 524287

/-- The bay controller after the reference head is restored at the end of a sweep (R53). -/
def Ctrl.restored (k : Ctrl) (p : Profile) : Ctrl :=
  { k with
    frozen := false, watch := none, loopHead := p.refHead, selHead := p.refHead
    switchWait := if k.selHead = p.refHead then k.switchWait else p.headSwitchWedges
    settle := if k.selHead = p.refHead ∧ k.loopHead = p.refHead then k.settle else 0
    targetNow := if k.loopHead = p.refHead then k.targetNow else none
    prevErr := if k.loopHead = p.refHead then k.prevErr else none }

/-- The bay at a sweep end other than COMPLETE, before the bay controller acts (R81, R149): the work, its
window, capture and write, the probe, the stack, the plan and the hold causes are gone, and PROVISIONAL
parts are closed. -/
def Bay.sweepEnded (x : Bay) (o : SweepOutcome) : Bay :=
  { x with
    meas := { x.meas with window := none }
    pattern := { x.pattern with write := none, capture := none }
    map := mapProvisional OffsetPart.unclosed x.map
    sweep := { x.sweep with
      active := false, work := none, phaseLimit := 0, probe := none, stack := [], plan := none,
      basePlan := .finished, holds := ⟨false, false, false, false, false⟩, lastOutcome := some o }
    unit := x.unit.setFlag .sweepDone }

/-- The event frames of SWEEP_DONE at such an end of bay `b`'s sweep (R150). -/
def Bay.doneFrames (x : Bay) (b : BayIx) (o : SweepOutcome) : List EventFrame :=
  x.unit.offers b (.sweepDone x.sweep.number o x.sweep.measured x.sweep.skipped x.sweep.lost
    (suspectCount (mapProvisional OffsetPart.unclosed x.map) x.sweep.number))

/-- The bay as a phase that seeks begins for work `w`: its target is named and the settle watch armed, which
sets the settle count to 0 (R62, R63). -/
def Bay.seeks (x : Bay) (w : Work) (target : Int) : Bay :=
  { x with
    sweep := { x.sweep with work := some w }
    ctrl := { x.ctrl with targetFinal := some target, settle := 0, watch := some 0 } }

/-- The bay in SWEEP as a visit to `ref_zone`'s track begins (R98). -/
def Bay.visits (x : Bay) (k : VisitKind) (track : Nat) : Bay :=
  { x with ctrl := { x.ctrl with state := .sweep } }.seeks
    ⟨.visit k, .seek, none, none, none, none, none, [], none⟩ (track * 4096)

/-- The bay after the loop head has changed from the selected head to another head (R55, R56). -/
def Bay.onHead (x : Bay) (h : Nat) : Bay :=
  { x with
    acq := { x.acq with run := 0, loss := 0 }
    counter := { x.counter with qp := none, resolved := false }
    ctrl := { x.ctrl with
      loopHead := h, selHead := h, switchWait := x.profile.headSwitchWedges
      targetNow := none, prevErr := none, settle := 0 } }

/-- Whether a revisit trigger's condition holds or its flag is set: count, time, temperature (R101). -/
def Bay.triggers (x : Bay) : Bool × Bool × Bool :=
  (x.meas.dueCount || decide (x.profile.revisitCount ≤ x.meas.offsetCount),
   x.meas.dueTime || decide (x.profile.revisitMs ≤ x.meas.elapsed),
   x.meas.dueTemp || match x.thermal.temp, x.thermal.lastRef with
     | some t, some r => decide (x.profile.revisitDelta ≤ (t - r).natAbs)
     | _, _ => false)

/-- Whether any trigger is due. -/
def Bay.isDue (x : Bay) : Bool := x.triggers.1 || x.triggers.2.1 || x.triggers.2.2

/-- The bay with the flags of the triggers that hold set (R101). -/
def Bay.flagged (x : Bay) : Bay :=
  { x with meas := { x.meas with
      dueCount := x.triggers.1, dueTime := x.triggers.2.1, dueTemp := x.triggers.2.2 } }

/-- The plan `rest` of the current probe `id` comes next: no probe is pending, and the current plan is that
probe with a REF step in front of `rest` (R139, R141). -/
abbrev Sweep.refNext (x : Sweep) (id : Nat) (rest : List StepRec) : Prop :=
  x.probe = none ∧ ∃ r, r.kind = .ref ∧ x.plan = some (.probe id (r :: rest))

end Sys2Proof.Machine
end

