-- ==== Sys2Proof/Certificates/Slice0/Obligations.lean ====
section
/-! DEFINITION. The statements for the provers. Next states are told in the shapes of
Sys2Proof/Safety.lean: `leaves` (one bay's work committed), `grants` (a request taken with its effect and
answer), `answers` (a request taken and answered with no other effect). -/

open Sys2Proof Sys2Proof.Machine

/-! ### The block as a whole -/

/-- A step runs the command at the front of the queue with the queue's rest; on an empty queue the block
idles (the model's choice, log entry 4). -/
def Obligations.StepRunsFrontCommand : Prop :=
  (∀ (c : Instr) (rest : List Instr) (s : State), s.pending = c :: rest →
    step s = exec c { s with pending := rest }) ∧
  (∀ s : State, s.pending = [] → step s = .next s)

/-- Every command answers a next state, and none touches the queue of waiting commands (log entry 25
names that nothing stops the block). -/
def Obligations.CommandsCompleteAndKeepQueue : Prop :=
  ∀ (c : Instr) (s : State), ∃ t, exec c s = .next t ∧ t.pending = s.pending

/-- The state at reset satisfies every law that the steps keep. POWER_ON gives every block its power-on
values with the line rate that BAUD_SEL chose; nothing is sent (R174, R181; the traces begin again, log
entry 30; the checker register at 0, log entry 2). -/
def Obligations.ResetIsLawfulAndPowerOnGivesIt : Prop :=
  (State.reset.linkLaw ∧
    ∀ b, let x := State.reset.bays.get b
      x.queueLaw ∧ x.offlineEmpty ∧ x.storeLaw ∧ x.counterLaw ∧ x.commandLaw ∧ x.markLaw ∧
        x.tablesLaw ∧ x.activeLaw ∧ x.stackLaw ∧ x.logLaw ∧ x.provisionalLaw ∧ x.offsetLaw ∧
        x.headsLaw ∧ x.loopLaw) ∧
  (∀ (s : State) (high : Bool), exec (.powerOn high) s = .next
    { bays := ⟨Bay.reset, Bay.reset, Bay.reset, Bay.reset⟩, demod := ⟨none, .bay3⟩,
      events := ⟨[], false⟩, link := ⟨high, .hunting, [], false, [], none⟩,
      sentRecords := ⟨[], [], [], []⟩, sentFrames := [], pending := s.pending })

/-- Every step keeps the laws of the link: at most 16 event frames (R170), at most 4 received frames
(R176), at most 4 QUEUE_FULL answers and one answer of a taken request (R178), and a line that is free
only when nothing waits to be sent. -/
def Obligations.StepKeepsLinkLaw : Prop :=
  ∀ s t : State, s.linkLaw → step s = .next t → t.linkLaw

/-- Every step keeps the law of the wedge queue (R26) together with the emptiness of an OFFLINE bay's
queue (R23, R30). -/
def Obligations.StepKeepsQueueLaw : Prop :=
  ∀ s t : State, (∀ b, (s.bays.get b).queueLaw ∧ (s.bays.get b).offlineEmpty) → step s = .next t →
    ∀ b, (t.bays.get b).queueLaw ∧ (t.bays.get b).offlineEmpty

/-- Every step keeps the law of the plan store (R132), the law of the counters (R126), and the canonical
form of the Head Maps and zone tables, each by itself. -/
def Obligations.StepKeepsStoreCountersTables : Prop :=
  ∀ s t : State, step s = .next t →
    ((∀ b, (s.bays.get b).storeLaw) → ∀ b, (t.bays.get b).storeLaw) ∧
    ((∀ b, (s.bays.get b).counterLaw) → ∀ b, (t.bays.get b).counterLaw) ∧
    ((∀ b, (s.bays.get b).tablesLaw) → ∀ b, (t.bays.get b).tablesLaw)

/-- Every step keeps the law of the command (R64). -/
def Obligations.StepKeepsCommandLaw : Prop :=
  ∀ s t : State, (∀ b, (s.bays.get b).commandLaw) → step s = .next t → ∀ b, (t.bays.get b).commandLaw

/-- Every step keeps the law of the accepted mark, both halves (R78): no marked entry has a PROVISIONAL
offset part; and no step result, no drift correction and no sweep end changes an entry while its mark is
set. Only MAP_CLEAR (R85), POWER_ON and a PART_RESET that takes effect (R68) change a marked entry. -/
def Obligations.StepKeepsMarkLaw : Prop :=
  ∀ s t : State, (∀ b, (s.bays.get b).markLaw) → step s = .next t →
    (∀ b, (t.bays.get b).markLaw) ∧
    ∀ (c : Instr) (rest : List Instr), s.pending = c :: rest → (∀ high, c ≠ .powerOn high) →
      (∀ tag body, c ≠ .mapClearFull tag body ∧ c ≠ .mapClearMarksOnly tag body) →
      (s.resetDue = true → c ≠ .frameSent ∧ c ≠ .partResetEffect) →
      ∀ (b : BayIx) (h z : Nat), let e := mapGet (s.bays.get b).map h z
        e.accepted = true → mapGet (t.bays.get b).map h z = e

/-- Every step keeps the law of the resume stack: at most 4 entries, and 1 to 7 steps left of a probe in
it (R140), together with what R134 says of the current plan and the pending probe. -/
def Obligations.StepKeepsStackLaw : Prop :=
  ∀ s t : State, (∀ b, (s.bays.get b).stackLaw) → step s = .next t → ∀ b, (t.bays.get b).stackLaw

/-- Every step keeps the law of the reference log: at most 64 records, in strictly increasing sequence
order (R99), together with the sequence numbers given being below the counter (R76, R143). -/
def Obligations.StepKeepsLogLaw : Prop :=
  ∀ s t : State, (∀ b, (s.bays.get b).logLaw) → step s = .next t → ∀ b, (t.bays.get b).logLaw

/-- Every step keeps the law of provisional parts: an offset part is PROVISIONAL only while its bay's sweep
is active, with a sequence number above that of the newest record of the log (R72). It goes with the law
of the log, with where an active sweep's bay is (R134), and with what work in flight stands on. -/
def Obligations.StepKeepsProvisionalLaw : Prop :=
  ∀ s t : State,
    (∀ b, let x := s.bays.get b; x.activeLaw ∧ x.logLaw ∧ x.offsetLaw ∧ x.provisionalLaw) →
    step s = .next t →
    ∀ b, let x := t.bays.get b; x.activeLaw ∧ x.logLaw ∧ x.offsetLaw ∧ x.provisionalLaw

/-- Every step keeps the law of the two heads: the loop head and the selected head differ only during
SWITCH, HEAD_AVG and RETURN (R57). It goes with where an active sweep's bay is (R134) and with the loop
head being ref_head but in a JOG step's phases on the measured head. -/
def Obligations.StepKeepsHeadsLaw : Prop :=
  ∀ s t : State, (∀ b, let x := s.bays.get b; x.activeLaw ∧ x.loopLaw ∧ x.headsLaw) →
    step s = .next t → ∀ b, let x := t.bays.get b; x.activeLaw ∧ x.loopLaw ∧ x.headsLaw

/-! ### Bytes -/

/-- A well-formed fixture record is read back from its bytes. The bytes of a whole frame, arriving at a
hunting receiver that is not closed, offer that frame: it joins the receive queue, or is answered QUEUE_FULL
when the queue refuses (R175, R176). -/
def Obligations.BytesAreRead : Prop :=
  (∀ r : InRecord, r.wellFormed = true → parseRecord r.bytes = some r) ∧
  (∀ (s : State) (kind tag : Byte) (body : List Byte), bodyFits body = true →
    s.link.receiver = .hunting → s.link.closed = false →
    exec (.receiveFrame (frameBytes kind tag body)) s =
      .next (if s.link.refusing then addAnswer s ⟨kind, tag, .queueFull, [], false⟩
        else { s with link := { s.link with rxQueue := s.link.rxQueue ++ [⟨kind, tag, body⟩] } }))

/-- What is discarded changes nothing else. Fixture records: every record of an OFFLINE bay, and a record
that is not well formed (R22, R23). Bytes of the link: two check bytes that are not the two sums, and a
start byte with a length outside 2..1022, each leaving an open, hunting receiver hunting, and, in any
receiver state, a byte framing error (R174, R175). A closed receiver discards every byte and is hunting
(R176). -/
def Obligations.BadInputsAreDiscarded : Prop :=
  (∀ (s : State) (b : BayIx), (s.bays.get b).ctrl.state = .offline →
    (∀ w, exec (.wedge b w) s = .next s) ∧ (∀ bits, exec (.readback b bits) s = .next s) ∧
    (∀ v, exec (.temp b v) s = .next s) ∧ (∀ a, exec (.fault b a) s = .next s) ∧
    exec (.writeDone b) s = .next s ∧ (∀ bytes, exec (.malformedRecord b bytes) s = .next s)) ∧
  (∀ (s : State) (b : BayIx),
    (∀ w, w.wellFormed = false → exec (.wedge b w) s = .next s) ∧
    (∀ bits, ¬(1 ≤ bits.length ∧ bits.length ≤ 256) → exec (.readback b bits) s = .next s) ∧
    (∀ v, ¬(-160 ≤ v ∧ v ≤ 600) → exec (.temp b v) s = .next s) ∧
    (∀ bytes, parseRecord bytes = none → exec (.malformedRecord b bytes) s = .next s)) ∧
  (∀ (s : State) (kind tag c0 c1 : Byte) (body : List Byte), bodyFits body = true →
    s.link.receiver = .hunting → s.link.closed = false →
    [c0, c1] ≠ [BitVec.ofNat 8 (fletcher (frameCovered kind tag body)).1,
      BitVec.ofNat 8 (fletcher (frameCovered kind tag body)).2] →
    exec (.receiveFrame (Config.startByte :: (frameCovered kind tag body ++ [c0, c1]))) s = .next s) ∧
  (∀ (s : State) (lo hi : Byte), s.link.receiver = .hunting → s.link.closed = false →
    ¬ (2 ≤ lo.toNat + 256 * hi.toNat ∧ lo.toNat + 256 * hi.toNat ≤ 1022) →
    exec (.impossibleLength lo hi) s = .next s) ∧
  (∀ s : State, exec .byteFramingError s =
    .next { s with link := { s.link with receiver := .hunting } }) ∧
  (∀ s : State, 4 ≤ s.link.rxQueue.length ∨ s.link.resetPending = true →
    4 ≤ s.link.replies.countP (fun a => !a.taken) →
    (∀ bytes, bytes ≠ [] → exec (.receiveFrame bytes) s =
      .next { s with link := { s.link with receiver := .hunting } }) ∧
    (∀ lo hi, exec (.impossibleLength lo hi) s =
      .next { s with link := { s.link with receiver := .hunting } }))

/-! ### The checker -/

/-- A checker that restarts and then receives the generator's own bits, from any register value, locks at
bit 49 and counts every later bit as compared and none as a mismatch, raising nothing (R111 to R113). -/
def Obligations.CleanBitsLock : Prop :=
  ∀ (r : BitVec 17) (n : Nat) (c : Ctx), 49 ≤ n →
    let d := feedBits (genBits n r).1
      (c.setPattern { c.pattern.restart with posCompared := 0, posMismatches := 0 })
    d.pattern.checker = .locked ∧ d.pattern.posCompared = n - 49 ∧ d.pattern.posMismatches = 0 ∧
      d.pattern.running.mismatches = c.pattern.running.mismatches ∧ d.frames = c.frames ∧
      d.bay.unit = c.bay.unit

/-! ### Pins and clock -/

/-- A tick that expires no timer counts each running timer once, whatever order it takes (R153). The tick
that brings a bay's acquisition timer to acq_timeout_ms, no sweep being active: ACQUIRE_TIMEOUT is raised
and the bay enters FAULT with the clamped park_current (R35, R54); with a sweep active, that sweep ends
LOST_SERVO. The tick that brings a running staleness timer to 500 ms: the level rises, SENSOR_STALE is
raised, the timer stops, and STALE joins the hold causes of an active sweep (R155). A row whose timer does
not expire does nothing (log entry 6). -/
def Obligations.TicksCountAndExpire : Prop :=
  (∀ (s : State) (order : List TimerId),
    (∀ b, (s.bays.get b).ctrl.state = .acquire →
      (s.bays.get b).acq.elapsed + 1 < (s.bays.get b).profile.acqTimeoutMs) →
    (∀ b, (s.bays.get b).thermal.staleRunning = true →
      (s.bays.get b).thermal.staleTimer + 1 < 500) →
    exec (.timeBaseTick order) s = .next { s with bays := ⟨s.bays.b0.ticked, s.bays.b1.ticked,
      s.bays.b2.ticked, s.bays.b3.ticked⟩ }) ∧
  (∀ (s : State) (b : BayIx),
    let x := s.bays.get b
    let d := Details.acquireTimeout x.ctrl.selHead x.acq.intent x.acq.run x.counter.resolved
    let due := x.ctrl.state = .acquire ∧ x.profile.acqTimeoutMs ≤ x.acq.elapsed + 1
    let stale := x.thermal.staleRunning = true ∧ 500 ≤ x.thermal.staleTimer + 1
    (due → x.sweep.active = false → x.ctrl.selHead = x.ctrl.loopHead →
      exec (.acquireTimeout b) s = .next (s.leaves b
        { x with
          acq := { x.acq with elapsed := x.acq.elapsed + 1, run := 0 }
          ctrl := { x.ctrl with state := .fault, targetFinal := none, targetNow := none,
                                prevErr := none, command := parkOutput x.profile, settle := 0,
                                frozen := false, watch := none }
          unit := x.unit.setFlag .acquireTimeout }
        (x.unit.offers b d) (driveIfChanged x.ctrl.command (parkOutput x.profile)))) ∧
    (due → x.sweep.active = true → ∃ t, exec (.acquireTimeout b) s = .next t ∧
      (t.bays.get b).ctrl.state = .fault ∧ (t.bays.get b).ctrl.command = parkOutput x.profile ∧
      (t.bays.get b).sweep.active = false ∧
      (t.bays.get b).sweep.lastOutcome = some .lostServo ∧ ∀ a, a ≠ b → t.bays.get a = s.bays.get a) ∧
    (stale → exec (.sensorStale b) s = .next (s.leaves b
      (({ x with thermal := { x.thermal with
            staleTimer := 500, staleRunning := false, stale := true } }.raising .sensorStale).holding
        .stale true)
      (x.unit.offers b (.sensorStale x.thermal.temp)) [])) ∧
    (¬ due → exec (.acquireTimeout b) s = .next s) ∧ (¬ stale → exec (.sensorStale b) s = .next s))

/-! ### Fixture records -/

/-- A well-formed WEDGE of a powered bay joins the tail of the wedge queue below depth, with QUEUE_WARN
when the occupancy comes to depth - 3 while the warn level is clear; at depth it is dropped with
QUEUE_OVERRUN (R28, R29). With the disposition HOLD either event adds EVENT to an active sweep's hold
causes (R166). -/
def Obligations.WedgeArrives : Prop :=
  ∀ (s : State) (b : BayIx) (w : Wedge),
    let x := s.bays.get b
    let n := x.intake.queue.length
    let joined (warn : Bool) : Bay := { x with intake := ⟨x.intake.queue ++ [w], warn⟩ }
    w.wellFormed = true → x.ctrl.state ≠ .offline →
    (n < x.profile.queueDepth → ¬(x.intake.warn = false ∧ n + 1 = x.profile.queueDepth - 3) →
      exec (.wedge b w) s = .next (s.leaves b (joined x.intake.warn) [] [])) ∧
    (n < x.profile.queueDepth → x.intake.warn = false → n + 1 = x.profile.queueDepth - 3 →
      exec (.wedge b w) s = .next (s.leaves b ((joined true).raising .queueWarn)
        (x.unit.offers b (.queueWarn (n + 1) x.profile.queueDepth)) [])) ∧
    (x.profile.queueDepth ≤ n →
      exec (.wedge b w) s = .next (s.leaves b (x.raising .queueOverrun)
        (x.unit.offers b (.queueOverrun n w.head (w.sync.map fun y => y.index))) []))

/-- READBACK: with no capture open it changes nothing. With one open that expects more blocks, its bits go
through the checker and the blocks received rise by one; the last expected block ends the capture with the
position's result, and a scan with positions left goes on to MOVE of the next one (R110, R114, R120).
WRITE_DONE: with no write outstanding it changes nothing; with one outstanding in WRITE_PASS it ends the
write and begins MOVE of position 0 (R109, R118, R119). -/
def Obligations.PatternRecordsArrive : Prop :=
  (∀ (s : State) (b : BayIx) (bits : List Bool) (cap : Capture) (w : Work) (k : Nat),
    let x := s.bays.get b
    1 ≤ bits.length → bits.length ≤ 256 → x.ctrl.state ≠ .offline →
    (x.pattern.capture = none → exec (.readback b bits) s = .next s) ∧
    (x.pattern.capture = some cap → x.sweep.work = some w → w.phase = .read k →
      let fed := feedBits bits (s.ctx b)
      (fed.bay.sweep.work = some w ∧ fed.bay.pattern.capture = some cap) ∧
      (cap.received + 1 < cap.expected →
        exec (.readback b bits) s = .next (s.leaves b
          { fed.bay with pattern := { fed.bay.pattern with
              capture := some { cap with received := cap.received + 1 } } } fed.frames [])) ∧
      (cap.expected = cap.received + 1 → k + 1 < (jobZone w.job (s.ctx b)).positions →
        exec (.readback b bits) s = .next (s.leaves b
          { fed.bay with
            pattern := { fed.bay.pattern with capture := none }
            sweep := { fed.bay.sweep with work := some { w with
              phase := .move (k + 1)
              results := w.results ++ [if fed.bay.pattern.checker = .locked then
                .count fed.bay.pattern.posMismatches else .noLock] } }
            ctrl := { x.ctrl with
              targetFinal := some (clampTarget ((jobZone w.job (s.ctx b)).centre +
                (jobZone w.job (s.ctx b)).scanOffset (k + 1)))
              settle := 0, watch := some 0 } } fed.frames [])))) ∧
  (∀ (s : State) (b : BayIx) (n : Nat) (w : Work),
    let x := s.bays.get b
    let z := jobZone w.job (s.ctx b)
    x.ctrl.state ≠ .offline →
    (x.pattern.write = none → exec (.writeDone b) s = .next s) ∧
    (x.pattern.write = some n → x.sweep.work = some w → w.phase = .writePass →
      exec (.writeDone b) s = .next (s.leaves b
        { x with
          pattern := { x.pattern with write := none }
          sweep := { x.sweep with work := some { w with phase := .move 0 } }
          ctrl := { x.ctrl with targetFinal := some (clampTarget (z.centre - z.halfSpan)),
                                settle := 0, watch := some 0 } } [] [])))

/-- A TEMP of a powered bay sets the temperature and restarts staleness timing, and a stale level falls with
STALE leaving an active sweep's hold causes (R154, R155). The hold level rises at hold_temp with TEMP_HOLD
and THERMAL, stands down to hold_temp - hyst, and falls below it with TEMP_CLEAR, THERMAL leaving (R156).
The cutoff level stands down to cutoff_temp - hyst and falls below it (R157). At cutoff_temp the cutoff
level rises with TEMP_CUTOFF and takes the bay to FAULT with the clamped park_current, an active sweep
being over, or finds it there (R160, R54). A HELD bay that such a fall sets free is
Obligations.LastCauseResumes. -/
def Obligations.TempArrives : Prop :=
  ∀ (s : State) (b : BayIx) (v : Int),
    let x := s.bays.get b
    let p := x.profile
    let read : Thermal := { x.thermal with
      temp := some v, staleTimer := 0, staleRunning := true, stale := false
      cutoff := x.thermal.cutoff && decide (p.cutoffTemp - p.hyst ≤ v) }
    let y : Bay := if x.thermal.stale = true then { x with thermal := read }.holding .stale false
      else { x with thermal := read }
    let warm : Bay := ({ y with thermal := { read with hold := true } }.raising .tempHold).holding
      .thermal true
    let cool : Bay := ({ y with thermal := { read with hold := false } }.raising .tempClear).holding
      .thermal false
    v ≤ 600 → -160 ≤ v → x.ctrl.state ≠ .offline →
    ((x.thermal.cutoff = false → v < p.cutoffTemp) →
      (x.thermal.stale = true → x.ctrl.state = .held → y.sweep.holds.isEmpty = false) →
      (x.thermal.hold = false → v < p.holdTemp → exec (.temp b v) s = .next (s.leaves b y [] [])) ∧
      (x.thermal.hold = false → p.holdTemp ≤ v → exec (.temp b v) s = .next (s.leaves b warm
        (x.unit.offers b (.tempHold v p.holdTemp)) [])) ∧
      (x.thermal.hold = true → p.holdTemp - p.hyst ≤ v →
        exec (.temp b v) s = .next (s.leaves b y [] [])) ∧
      (x.thermal.hold = true → v < p.holdTemp - p.hyst →
        (x.ctrl.state = .held → cool.sweep.holds.isEmpty = false) →
        exec (.temp b v) s = .next (s.leaves b cool
          (x.unit.offers b (.tempClear v (p.holdTemp - p.hyst))) []))) ∧
    (x.thermal.cutoff = false → p.cutoffTemp ≤ v →
      (x.ctrl.state ≠ .fault → x.thermal.line = false →
        ∃ t, exec (.temp b v) s = .next t ∧ (t.bays.get b).ctrl.state = .fault ∧
          (t.bays.get b).ctrl.command = parkOutput p ∧ (t.bays.get b).thermal.cutoff = true ∧
          (t.bays.get b).thermal.temp = some v ∧ (t.bays.get b).sweep.active = false ∧
          (t.bays.get b).unit.flag .tempCutoff = true ∧
          (t.bays.get b).ctrl.targetFinal = none ∧ (t.bays.get b).profile = p ∧
          (∀ a, a ≠ b → t.bays.get a = s.bays.get a)) ∧
      (x.ctrl.state = .fault → x.thermal.stale = false → x.thermal.hold = true → p.holdTemp ≤ v →
        exec (.temp b v) s = .next (s.leaves b
          ({ x with thermal := { x.thermal with
              temp := some v, staleTimer := 0, staleRunning := true, cutoff := true } }.raising
            .tempCutoff)
          (x.unit.offers b (.tempCutoff v p.cutoffTemp .fault)) [])))

/-- A FAULT record that gives the level it finds changes nothing. One that makes the line active raises
FAULT_LINE, with fault_line_action NONE doing no more, HOLD adding FAULT_LINE to an active sweep's hold
causes, and CUTOFF taking the bay to FAULT unless the condition is present or the bay is there (R158 to
R160). One that makes it inactive takes the cause out again under HOLD and does no more otherwise. -/
def Obligations.FaultLineArrives : Prop :=
  ∀ (s : State) (b : BayIx) (a : Bool),
    let x := s.bays.get b
    let d := Details.faultLine x.profile.faultLineAction x.ctrl.state
    let risen : Bay := { x with thermal := { x.thermal with line := true } }.raising .faultLine
    let fallen : Bay := { x with thermal := { x.thermal with line := false } }
    x.ctrl.state ≠ .offline →
    (x.thermal.line = a → exec (.fault b a) s = .next s) ∧
    (x.thermal.line = false → x.profile.faultLineAction = .none →
      exec (.fault b true) s = .next (s.leaves b risen (x.unit.offers b d) [])) ∧
    (x.thermal.line = false → x.profile.faultLineAction = .hold →
      exec (.fault b true) s = .next (s.leaves b (risen.holding .faultLine true)
        (x.unit.offers b d) [])) ∧
    (x.thermal.line = false → x.profile.faultLineAction = .cutoff →
      (x.thermal.cutoff = true ∨ x.ctrl.state = .fault →
        exec (.fault b true) s = .next (s.leaves b risen (x.unit.offers b d) [])) ∧
      (x.thermal.cutoff = false → x.sweep.active = false → x.ctrl.state ≠ .fault →
        x.ctrl.selHead = x.ctrl.loopHead →
        exec (.fault b true) s = .next (s.leaves b
          { risen with
            acq := { x.acq with run := 0 }
            ctrl := { x.ctrl with state := .fault, targetFinal := none, targetNow := none,
                                  prevErr := none, command := parkOutput x.profile, settle := 0,
                                  frozen := false, watch := none } }
          (x.unit.offers b d) (driveIfChanged x.ctrl.command (parkOutput x.profile)))) ∧
      (x.thermal.cutoff = false → x.sweep.active = true → x.ctrl.state ≠ .fault →
        ∃ t, exec (.fault b true) s = .next t ∧ (t.bays.get b).ctrl.state = .fault ∧
          (t.bays.get b).ctrl.command = parkOutput x.profile ∧
          (t.bays.get b).sweep.active = false ∧
          (t.bays.get b).sweep.lastOutcome = some .faulted ∧
          (∀ a, a ≠ b → t.bays.get a = s.bays.get a))) ∧
    (x.thermal.line = true → x.profile.faultLineAction ≠ .hold →
      exec (.fault b false) s = .next (s.leaves b fallen [] [])) ∧
    (x.thermal.line = true → x.profile.faultLineAction = .hold →
      (x.ctrl.state = .held → (fallen.holding .faultLine false).sweep.holds.isEmpty = false) →
      exec (.fault b false) s = .next (s.leaves b (fallen.holding .faultLine false) [] []))

/-- A HELD bay whose last hold cause falls enters SWEEP at the same event, and the boundary resumes at its
step 3: with the opening visit when the log is empty, with the inline visit when a revisit trigger is due,
and else with the next step, here a planned REF visit (R101, R138, R142, R146). A TEMP below
hold_temp - hyst takes THERMAL away with TEMP_CLEAR (R156), a TEMP takes STALE away (R155), and an inactive
fault line takes FAULT_LINE away under HOLD (R159). -/
def Obligations.LastCauseResumes : Prop :=
  ∀ (s : State) (b : BayIx) (z : Zone) (v : Int) (id : Nat) (rest : List StepRec),
    let x := s.bays.get b
    let p := x.profile
    let read : Thermal := { x.thermal with
      temp := some v, staleTimer := 0, staleRunning := true, stale := false }
    let freed (th : Thermal) : Bay := { x with
      thermal := th, sweep := { x.sweep with holds := ⟨false, false, false, false, false⟩ } }
    let goesOn (th : Thermal) : Prop :=
      x.meas.log = [] ∨ (freed th).isDue = true ∨ x.sweep.refNext id rest
    let resumed (th : Thermal) : Bay :=
      let y := freed th
      if x.meas.log = [] then y.visits .opening z.track
      else if y.isDue = true then y.flagged.visits .onTrigger z.track
      else { y with sweep := { y.sweep with plan := some (.probe id rest) } }.visits .planned z.track
    x.ctrl.state = .held → x.sweep.active = true →
    zoneGet x.zones p.refZone = some z → z.track ≤ 524287 →
    (v ≤ 600 → -160 ≤ v → x.thermal.cutoff = false → v < p.cutoffTemp →
      (x.thermal.stale = false → x.thermal.hold = true → v < p.holdTemp - p.hyst →
        x.sweep.holds = ⟨false, true, false, false, false⟩ → x.unit.disposition .tempClear ≠ .hold →
        goesOn { read with hold := false } →
        exec (.temp b v) s = .next (s.leaves b
          { resumed { read with hold := false } with unit := x.unit.setFlag .tempClear }
          (x.unit.offers b (.tempClear v (p.holdTemp - p.hyst))) [])) ∧
      (x.thermal.stale = true → x.thermal.hold = false → v < p.holdTemp →
        x.sweep.holds = ⟨false, false, true, false, false⟩ → goesOn read →
        exec (.temp b v) s = .next (s.leaves b (resumed read) [] []))) ∧
    (x.thermal.line = true → p.faultLineAction = .hold →
      x.sweep.holds = ⟨false, false, false, true, false⟩ → goesOn { x.thermal with line := false } →
      exec (.fault b false) s = .next
        (s.leaves b (resumed { x.thermal with line := false }) [] []))

/-! ### Requests on the link -/

/-- A request row whose frame stands oldest in the receive queue is taken at once and answered once: one
answer of a taken request joins the answers that waited, whatever its status, and no answer goes on the
line before it. There is no effect but the answer unless its status is OK or ADJUSTED; while an answer of a
taken request waits or a PART_RESET is pending the frame is not taken, and a frame of another row's option
stays (R177, R178; log entry 5). -/
def Obligations.RequestAnsweredOnce : Prop :=
  ∀ (i : Instr) (f : Frame) (own : Bool) (s : State), requestOf i = some (f, own) →
    s.link.rxQueue.head? = some f →
    (own = true → s.link.ready = true → ∃ u st reply,
      exec i s = .next (addAnswer u ⟨f.kind, f.tag, st, reply, true⟩) ∧
      (st ≠ .ok → st ≠ .adjusted → u = s.takeFrame) ∧
      (∀ a ∈ u.link.replies, a.taken = false) ∧
      ((s.link.line = none → s.link.replies = []) → u.link.replies = s.link.replies ∧
        (u.link.line = s.link.line ∨ ∃ e, u.link.line = some (.event e)))) ∧
    (own = false ∨ s.link.ready = false → exec i s = .next s)

/-- IDENT is taken whatever the state of the bays, and its reply is OK with the family code 0x0416,
revision 1, bay count 4, head limit 16 and zone limit 24 (R179). PART_RESET, taken: the receive queue is
emptied, the reset is pending and the reply is OK with no body (R180). For both a body that is not empty is
BAD_LENGTH, and a frame of a kind that is no request's is answered UNKNOWN_KIND (R177). -/
def Obligations.IdentResetAndUnknownKind : Prop :=
  (∀ (s : State) (kind tag : Byte) (body : List Byte), requestKinds.contains kind = false →
    s.takes ⟨kind, tag, body⟩ →
    exec (.unknownKind kind tag body) s = .next (s.answers ⟨kind, tag, body⟩ .unknownKind [])) ∧
  ∀ (s : State) (tag : Byte),
    (s.takes ⟨0x01, tag, []⟩ → exec (.ident tag []) s =
      .next (s.answers ⟨0x01, tag, []⟩ .ok [0x16, 0x04, 0x01, 0x04, 0x10, 0x18])) ∧
    (∀ b rest, s.takes ⟨0x01, tag, b :: rest⟩ → exec (.ident tag (b :: rest)) s =
      .next (s.answers ⟨0x01, tag, b :: rest⟩ .badLength [])) ∧
    (s.takes ⟨0x02, tag, []⟩ → exec (.partReset tag []) s = .next
      (addAnswer { s with link := { s.link with rxQueue := [], resetPending := true } }
        ⟨0x02, tag, .ok, [], true⟩)) ∧
    (∀ b rest, s.takes ⟨0x02, tag, b :: rest⟩ → exec (.partReset tag (b :: rest)) s =
      .next (s.answers ⟨0x02, tag, b :: rest⟩ .badLength []))

/-- The last byte of the PART_RESET reply leaves while the reset is pending: each powered bay sends DRIVE 0
if its command is not 0, then POWER off; every block takes its power-on values (the checker register at 0 is
log entry 2); the line rate, the receiver and the QUEUE_FULL answers are kept, and the oldest of these is sent (R180). At any other frame,
a reset pending or not, PART_RESET_EFFECT does nothing (log entry 6) and the end of the frame begins the
oldest answer, failing that the oldest event frame, failing that the line is free; a free line stays free
(R178). -/
def Obligations.FrameEnds : Prop :=
  (∀ (s : State) (tag : Byte) (body : List Byte),
    let out (b : BayIx) : List OutRecord := if (s.bays.get b).ctrl.state = .offline then []
      else driveIfChanged (s.bays.get b).ctrl.command 0 ++ [.power false]
    s.link.resetPending = true → s.link.line = some (.answer ⟨0x02, tag, .ok, body, true⟩) →
    let t := arbiter { s with
      bays := ⟨Bay.reset, Bay.reset, Bay.reset, Bay.reset⟩
      demod := ⟨none, .bay3⟩
      events := ⟨[], false⟩
      link := { s.link with rxQueue := [], resetPending := false, line := none,
                            replies := s.link.replies.filter fun a => !a.taken }
      sentRecords := ⟨s.sentRecords.b0 ++ out .bay0, s.sentRecords.b1 ++ out .bay1,
        s.sentRecords.b2 ++ out .bay2, s.sentRecords.b3 ++ out .bay3⟩ }
    exec .partResetEffect s = .next t ∧ exec .frameSent s = .next t) ∧
  (∀ s : State, s.link.resetPending = false ∨
      (∀ tag body, s.link.line ≠ some (.answer ⟨0x02, tag, .ok, body, true⟩)) →
    exec .partResetEffect s = .next s ∧
    (s.link.line = none → exec .frameSent s = .next s) ∧
    ∀ f : TxFrame, s.link.line = some f →
      (∀ a rest, s.link.replies = a :: rest → exec .frameSent s = .next { s with
        link := { s.link with line := some (.answer a), replies := rest }
        sentFrames := s.sentFrames ++ [.answer a] }) ∧
      (∀ e rest, s.link.replies = [] → s.events.frames = e :: rest → exec .frameSent s = .next { s with
        link := { s.link with line := some (.event e) }
        events := { s.events with frames := rest }
        sentFrames := s.sentFrames ++ [.event e] }) ∧
      (s.link.replies = [] → s.events.frames = [] →
        exec .frameSent s = .next { s with link := { s.link with line := none } }))

/-- Event frames offered to a full event queue of 16 are lost and set the overflow flag, the bay's other
effects standing; below 16 a frame joins the tail, and on a free line with nothing waiting its sending
begins (R170, R178). So a QUEUE_OVERRUN raised while the queue is full sets its flag and no more. -/
def Obligations.EventFramesQueue : Prop :=
  (∀ (s : State) (b : BayIx) (x : Bay) (e : EventFrame) (more : List EventFrame)
      (records : List OutRecord),
    let u : State := { s with
      bays := s.bays.set b x, sentRecords := s.sentRecords.set b (s.sentRecords.get b ++ records) }
    (s.events.frames.length = 16 → s.leaves b x (e :: more) records =
      { u with events := ⟨s.events.frames, true⟩ }) ∧
    (s.events.frames.length < 16 → s.link.line ≠ none → s.leaves b x [e] records =
      { u with events := ⟨s.events.frames ++ [e], s.events.overflow⟩ }) ∧
    (s.link.line = none → s.link.replies = [] → s.events.frames = [] → s.leaves b x [e] records =
      { u with
        link := { s.link with line := some (.event e) }
        sentFrames := s.sentFrames ++ [.event e] })) ∧
  (∀ (s : State) (b : BayIx) (w : Wedge),
    let x := s.bays.get b
    w.wellFormed = true → x.ctrl.state ≠ .offline → x.profile.queueDepth ≤ x.intake.queue.length →
    x.unit.disposition .queueOverrun ≠ .latch → s.events.frames.length = 16 →
    exec (.wedge b w) s = .next { s with
      bays := s.bays.set b (x.raising .queueOverrun), events := ⟨s.events.frames, true⟩ })

/-! ### The demodulator and the counter -/

/-- A FREE demodulator searches from the bay after the one served last and takes the oldest wedge of the
first powered bay with a record; the warn level falls when the take leaves depth - 4 records. With no
such bay, or while BUSY, nothing happens (R7, R29). A completion frees the demodulator. With none in flight
nothing happens, a wedge of an OFFLINE bay is discarded, and in IDLE and FAULT past the switch wait the
sample does nothing but send its DRIVE record (R8, R58, R66; R30 for the OFFLINE bay). -/
def Obligations.DemodTakesAndCompletes : Prop :=
  (∀ s : State, s.demod.busy ≠ none ∨ (∀ b, s.offersWedge b = false) →
    exec .demodTake s = .next s) ∧
  (∀ (s : State) (pre post : List BayIx) (b : BayIx) (w : Wedge) (rest : List Wedge),
    let l := s.demod.lastServed
    let x := s.bays.get b
    s.demod.busy = none →
    [nextBay l, nextBay (nextBay l), nextBay (nextBay (nextBay l)), l] = pre ++ b :: post →
    (∀ a ∈ pre, (s.bays.get a).ctrl.state = .offline ∨ (s.bays.get a).intake.queue = []) →
    x.ctrl.state ≠ .offline → x.intake.queue = w :: rest →
    exec .demodTake s = .next { s with
      bays := s.bays.set b { x with
        intake := ⟨rest, x.intake.warn && decide (rest.length + 1 ≠ x.profile.queueDepth - 3)⟩ }
      demod := ⟨some (b, w), b⟩ }) ∧
  (∀ (s : State) (b : BayIx) (w : Wedge),
    let x := s.bays.get b
    let c := (classify w (s.ctx b)).1
    let free : State := { s with demod := ⟨none, s.demod.lastServed⟩ }
    (s.demod.busy = none → exec .demodComplete s = .next s) ∧
    (s.demod.busy = some (b, w) → x.ctrl.state = .offline → exec .demodComplete s = .next free) ∧
    (s.demod.busy = some (b, w) → x.ctrl.state = .idle ∨ x.ctrl.state = .fault →
      x.ctrl.switchWait = 0 →
      exec .demodComplete s = .next (free.leaves b c.bay c.frames [.drive x.ctrl.command])))

/-- While the counter is unresolved, a wedge that reaches it does not step Cq, raises no QUAD_JUMP, and
records its quadrant as qp. One without a track number leaves the counter unresolved and is UNPLACED,
however many of them come; one with a track number resolves the counter and reports no slip. P, Q, the burst
sum, the quadrant and the count read are written out from R1, R2 and R15. -/
def Obligations.UnresolvedCounter : Prop :=
  (∀ (c : Ctx) (head : Nat) (y : WedgeSync),
    let p : Int := (y.a : Int) - y.b
    let k : Int := (y.c : Int) - y.d
    let q : Quadrant := if 0 < p ∧ 0 ≤ k then .one else if p ≤ 0 ∧ 0 < k then .two
      else if p < 0 ∧ k ≤ 0 then .three else .four
    let r := classify ⟨head, some y⟩ c
    c.bay.counter.resolved = false → head = c.bay.ctrl.selHead →
    c.bay.profile.minSum ≤ p.natAbs + k.natAbs →
    (y.track = none → r.1 = c.setCounter { c.bay.counter with qp := some q } ∧ r.2.cls = .unplaced) ∧
    (∀ t : Nat, y.track = some t → r.2.cls = .position ∧
      let read : Int := match q with
        | .one => 4 * t
        | .two => 4 * t + 1
        | .three => 4 * t - 2
        | .four => 4 * t - 1
      r.1 = c.setCounter { c.bay.counter with cq := read, qp := some q, resolved := true })) ∧
  (∀ (ys : List WedgeSync) (c : Ctx), c.bay.counter.resolved = false →
    (∀ y ∈ ys, y.track = none ∧
      c.bay.profile.minSum ≤ ((y.a : Int) - y.b).natAbs + ((y.c : Int) - y.d).natAbs) →
    let d := ys.foldl (fun d y => (classify ⟨c.bay.ctrl.selHead, some y⟩ d).1) c
    d.bay.counter.resolved = false ∧ d.bay.counter.cq = c.bay.counter.cq ∧ d.frames = c.frames)

/-- What the four bursts of a wedge give. Without sync it is NO_SYNC, of a head that is not selected FOREIGN,
and with a burst sum |A − B| + |C − D| below min_sum WEAK, carrying the sum; none of the three steps the
counter, reads the track number or changes anything else (R1, R4, R5). At min_sum or above, the quadrant is by
the signs of A − B and C − D, the phase fraction t is |C − D| × 1024 / Den truncated, and the offset from the
track's centre, within ±2048, is t, 2048 − t, t − 2048 or −t (R2, R3). A resolved counter then steps by
d = (q − qp) mod 4: Cq stands, rises or falls by one, or at d = 2 stands with QUAD_JUMP raised and the counter
unresolved (R11, R12); a step past the counts −2..2,097,149 leaves it unresolved at the stepped count (R13).
Without a track number the sample is POSITION on the track of the count, or UNPLACED. With one, Cq takes the
count read, and a count that disagrees with a counter still resolved is a slip: POSITION_SLIP is raised and
the captures shift (R15, R16, R18). -/
def Obligations.ResolvedCounter : Prop :=
  (∀ (c : Ctx) (w : Wedge),
    (w.sync = none → classify w c = (c, ⟨.noSync, w.head, false, none, none, none⟩)) ∧
    (∀ y, w.sync = some y →
      let den : Nat := ((y.a : Int) - y.b).natAbs + ((y.c : Int) - y.d).natAbs
      let mark := decide (y.index = 0)
      (w.head ≠ c.bay.ctrl.selHead → classify w c = (c, ⟨.foreign, w.head, mark, none, none, none⟩)) ∧
      (w.head = c.bay.ctrl.selHead → den < c.bay.profile.minSum →
        classify w c = (c, ⟨.weak, w.head, mark, some den, none, none⟩)))) ∧
  (∀ (c : Ctx) (y : WedgeSync) (qp : Quadrant),
    let x := c.bay.counter
    let head := c.bay.ctrl.selHead
    let mark := decide (y.index = 0)
    let p : Int := (y.a : Int) - y.b
    let k : Int := (y.c : Int) - y.d
    let den : Nat := p.natAbs + k.natAbs
    let q : Quadrant := if 0 < p ∧ 0 ≤ k then .one else if p ≤ 0 ∧ 0 < k then .two
      else if p < 0 ∧ k ≤ 0 then .three else .four
    let t : Int := (k.natAbs * 1024 / den : Nat)
    let o : Int := match q with
      | .one => t
      | .two => 2048 - t
      | .three => t - 2048
      | .four => -t
    let index (a : Quadrant) : Nat := match a with
      | .one => 0
      | .two => 1
      | .three => 2
      | .four => 3
    let d := (index q + 4 - index qp) % 4
    let n : Int := if d = 1 then x.cq + 1 else if d = 3 then x.cq - 1 else x.cq
    let kept : Bool := decide (d = 0 ∨ (d ≠ 2 ∧ -2 ≤ n ∧ n ≤ 2097149))
    let stepped : Bay := { c.bay with counter := { x with cq := n, qp := some q, resolved := kept } }
    let u : Ctx := if d = 2 then
        { c with bay := stepped.raising .quadJump
                 frames := c.frames ++ c.bay.unit.offers c.id (.quadJump head qp q x.cq) }
      else { c with bay := stepped }
    let r := classify ⟨head, some y⟩ c
    x.resolved = true → x.qp = some qp → c.bay.profile.minSum ≤ den →
    (-2048 ≤ o ∧ o ≤ 2048) ∧
    (y.track = none → r.1 = u ∧
      (kept = true → r.2 = ⟨.position, head, mark, some den, some q, some ((n + 2) / 4 * 4096 + o)⟩) ∧
      (kept = false → r.2 = ⟨.unplaced, head, mark, some den, some q, none⟩)) ∧
    (∀ t : Nat, y.track = some t →
      let e : Int := 4 * t + match q with
        | .one => 0
        | .two => 1
        | .three => -2
        | .four => -1
      let seq := if c.bay.sweep.active = true then c.bay.sweep.seqNext - 1 else 0
      r.2 = ⟨.position, head, mark, some den, some q, some ((t : Int) * 4096 + o)⟩ ∧
      (kept = false ∨ e = n → r.1 = { u with
        bay := { u.bay with counter := { x with cq := e, qp := some q, resolved := true } } }) ∧
      (kept = true → e ≠ n → r.1 = { u with
        bay := { stepped with counter := ⟨e, some q, true, some ⟨e - n, seq⟩,
          if x.latest = none then x.previous else x.latest⟩ }.raising .positionSlip
        frames := c.frames ++ c.bay.unit.offers c.id (.positionSlip head (e - n) seq) })))

/-- A sample in ACQUIRE: NO_SYNC and FOREIGN break the run, every other class raises it up to 255, and a
POSITION that finds it at acq_count completes: run and loss count 0, ACQUIRED raised, the loop seeded at the
sample, and the bay in FOLLOW or SWEEP by its intent (R33, R34; the previous error's absence is the model's
reading, log entry 14, as is the selected head in ACQUIRED, log entry 19). In SWEEP the interrupted visit or
OFFSET step begins again with its SEEK, its number kept (R147); with none in flight the boundary runs: HELD
by a hold cause, else the opening visit of an empty log (R136, R137, R138). -/
def Obligations.AcquisitionRuns : Prop :=
  ∀ (s : State) (b : BayIx) (w : Wedge) (y : Sample),
    let x := s.bays.get b
    let c := (classify w (s.ctx b)).1
    let free : State := { s with demod := ⟨none, s.demod.lastServed⟩ }
    let run := match y.cls with
      | .noSync => 0
      | .foreign => 0
      | _ => min 255 (x.acq.run + 1)
    s.demod.busy = some (b, w) → (classify w (s.ctx b)).2 = y → x.ctrl.state = .acquire →
    x.ctrl.switchWait = 0 → x.acq.run ≤ 255 →
    (y.cls ≠ .position ∨ run < x.profile.acqCount →
      exec .demodComplete s = .next (free.leaves b { c.bay with acq := { x.acq with run := run } }
        c.frames [.drive x.ctrl.command])) ∧
    (∀ pos, y.cls = .position → y.position = some pos → x.profile.acqCount ≤ run →
      let done (ctrl : Ctrl) : Bay := { c.bay with
        acq := { x.acq with run := 0, loss := 0 }, ctrl := ctrl }.raising .acquired
      let seeded : Ctrl := { x.ctrl with targetNow := some pos, prevErr := none }
      let seek (t : Int) : Ctrl := { seeded with
        state := .sweep, targetFinal := some t, settle := 0, watch := some 0 }
      let frames := c.frames ++
        c.bay.unit.offers b (.acquired x.ctrl.selHead pos x.acq.intent x.acq.elapsed)
      let completes (z : Bay) : Prop :=
        exec .demodComplete s = .next (free.leaves b z frames [.drive x.ctrl.command])
      (x.acq.intent = .follow → completes (done { seeded with state := .follow })) ∧
      (∀ wk, x.acq.intent = .sweep → x.sweep.work = some wk → (∀ h z, wk.job ≠ .jog h z) →
        let z := done (seek (clampTarget (jobZone wk.job (s.ctx b)).centre))
        completes { z with sweep := { z.sweep with work := some { wk with phase := .seek } } }) ∧
      (x.acq.intent = .sweep → x.sweep.work = none → x.sweep.seqNext < 65536 →
        let held := done { seeded with state := .held, watch := none }
        (held.sweep.holds.isEmpty = false → completes held) ∧
        (held.sweep.holds.isEmpty = true → x.meas.log = [] → ∀ zone : Zone,
          zoneGet x.zones x.profile.refZone = some zone → zone.track ≤ 524287 →
          let z := done (seek (zone.track * 4096))
          completes { z with sweep := { z.sweep with
            work := some ⟨.visit .opening, .seek, none, none, none, none, none, [], none⟩ } })))

/-- A sample past the switch wait in FOLLOW. A POSITION sample of the loop head is a loop update when the
loop is seeded: target_now slews toward target_final, the command is bias + P + D clamped to the current
limit, the settle count rises on target within the window and is 0 otherwise; with target_now absent it
seeds the loop at its position and the command and the previous error stand. Every other sample, and every
sample while frozen, holds the command, target_now and the previous error, and the settle count is 0. NO_SYNC
and FOREIGN raise the loss count and the other classes set it to 0; DRIVE carries the command (R38, R56, R59 to
R62, R66). -/
def Obligations.LoopHearsInFollow : Prop :=
  ∀ (s : State) (b : BayIx) (w : Wedge) (y : Sample),
    let x := s.bays.get b
    let p := x.profile
    let c := (classify w (s.ctx b)).1
    let free : State := { s with demod := ⟨none, s.demod.lastServed⟩ }
    let leaves (loss : Nat) (k : Ctrl) : Prop := exec .demodComplete s = .next (free.leaves b
      { c.bay with acq := { x.acq with loss := loss }, ctrl := k } c.frames [.drive k.command])
    s.demod.busy = some (b, w) → (classify w (s.ctx b)).2 = y → x.ctrl.state = .follow →
    x.ctrl.switchWait = 0 → x.ctrl.selHead = x.ctrl.loopHead → x.ctrl.watch = none →
    (∀ pos now final : Int, y.cls = .position → y.position = some pos → y.head = x.ctrl.loopHead →
      x.ctrl.frozen = false → x.ctrl.targetNow = some now → x.ctrl.targetFinal = some final →
      let target := if (final - now).natAbs ≤ p.slewPu then final
        else if now < final then now + p.slewPu else now - p.slewPu
      let e := max (-32767) (min 32767 (target - pos))
      let d := match x.ctrl.prevErr with
        | some q => (p.kd * (e - q)).tdiv 64
        | none => 0
      leaves 0 { x.ctrl with
        targetNow := some target, prevErr := some e
        command := max (-(p.currentLimit : Int)) (min p.currentLimit (p.bias + (p.kp * e).tdiv 64 + d))
        settle := if ¬ (e.natAbs ≤ p.onTrackWindow ∧ target = final) then 0
          else if x.ctrl.settle < 255 then x.ctrl.settle + 1 else x.ctrl.settle }) ∧
    (∀ pos : Int, y.cls = .position → y.position = some pos → y.head = x.ctrl.loopHead →
      x.ctrl.frozen = false → x.ctrl.targetNow = none →
      leaves 0 { x.ctrl with targetNow := some pos, settle := 0 }) ∧
    (y.cls ≠ .position ∨ x.ctrl.frozen = true →
      (y.cls ≠ .noSync → y.cls ≠ .foreign → leaves 0 { x.ctrl with settle := 0 }) ∧
      (y.cls = .noSync ∨ y.cls = .foreign → x.acq.loss + 1 < lossThreshold p →
        leaves (x.acq.loss + 1) { x.ctrl with settle := 0 }))

/-- A sample in SWEEP while the settle watch is armed; loss counting and the loop hear it first. Off track and
short of settle_timeout the watch counts it, and SEEK and the MOVE of position k become SETTLE at the first
update that leaves target_now at target_final (R63, R90, R117, R119). On track the watch is disarmed. After
SEEK the work takes the next sequence number and the temperature, or keeps what it holds after a restart;
an OFFSET step or a visit opens the window of REF_AVG on ref_head, and a JOG step starts its write pass:
with pattern_loop OFF its WRITE records leave and the write is outstanding, with INTERNAL the pass fills the
loop buffer and MOVE of position 0 begins. At position k the capture opens with the checker restarted:
with OFF a CAPTURE record leaves, with INTERNAL the loop buffer is read at once and MOVE of the next
position begins, or after the last one the scan is evaluated and the return LOOP_SWITCH of a head other than
ref_head begins (R76, R86, R90, R91, R107, R109, R110, R115, R117 to R120, R124, R143, R163; that the
restarted checker keeps its register's bits is log entry 2). -/
def Obligations.SettlingPhasesAdvance : Prop :=
  ∀ (s : State) (b : BayIx) (w : Wedge) (y : Sample) (wk : Work) (n : Nat),
    let x := s.bays.get b
    let p := x.profile
    let c := (classify w (s.ctx b)).1
    let free : State := { s with demod := ⟨none, s.demod.lastServed⟩ }
    let heard := c.bay.heard y
    let k := heard.ctrl
    let z := jobZone wk.job (s.ctx b)
    let updated := x.ctrl.frozen = false ∧ y.cls = .position ∧ y.head = x.ctrl.loopHead ∧
      y.position ≠ none ∧ x.ctrl.targetNow ≠ none ∧ x.ctrl.targetFinal ≠ none
    let leaves (d : Bay) (frames : List EventFrame) (records : List OutRecord) : Prop :=
      exec .demodComplete s = .next (free.leaves b d frames (records ++ [.drive k.command]))
    s.demod.busy = some (b, w) → (classify w (s.ctx b)).2 = y → x.ctrl.state = .sweep →
    x.ctrl.switchWait = 0 → x.ctrl.selHead = x.ctrl.loopHead →
    (y.cls = .noSync ∨ y.cls = .foreign → x.acq.loss + 1 < lossThreshold p) →
    x.ctrl.watch = some n → x.sweep.work = some wk →
    (k.settle < p.settleCount → n + 1 < p.settleTimeout →
      let counted (phase : Phase) : Bay := { heard with
        ctrl := { k with watch := some (n + 1) }
        sweep := { c.bay.sweep with work := some { wk with phase := phase } } }
      (updated → k.targetNow = k.targetFinal →
        (wk.phase = .seek → leaves (counted .settle) c.frames []) ∧
        (∀ i, wk.phase = .move i → leaves (counted (.settleAt i)) c.frames [])) ∧
      (¬ updated ∨ k.targetNow ≠ k.targetFinal → ∀ i, wk.phase ∈ [.seek, .move i] →
        leaves (counted wk.phase) c.frames []) ∧
      (∀ i, wk.phase ∈ [.settle, .settleAt i] → leaves (counted wk.phase) c.frames [])) ∧
    (p.settleCount ≤ k.settle →
      let tracked : Bay := { heard with ctrl := { k with watch := none } }
      (wk.phase ∈ [.seek, .settle] →
        let stamped : Work := match wk.seq with
          | some _ => wk
          | none => { wk with seq := some x.sweep.seqNext, temp := x.thermal.temp }
        let sweep : Sweep := { c.bay.sweep with
          seqNext := if wk.seq = none then x.sweep.seqNext + 1 else x.sweep.seqNext }
        let blocks := blocksOf p.writeBlocks (passBits p.writeBlocks x.pattern.selfCheck)
        let passed : Pattern := { x.pattern with gen := passRegister p.writeBlocks, selfCheck := false }
        (∀ e, (∀ h a, wk.job ≠ .jog h a) → 2 ≤ e → e ≤ 8 → 2 ^ e ≤ p.avgCount →
          p.avgCount < 2 ^ (e + 1) → leaves { tracked with
            sweep := { sweep with work := some { stamped with phase := .refAvg } }
            meas := { x.meas with window := some ⟨p.refHead, 2 ^ e, 0, 0, none, 0, 0, false⟩ } }
            c.frames []) ∧
        (∀ h a, wk.job = .jog h a →
          (p.patternLoop = .off → leaves { tracked with
            sweep := { sweep with work := some { stamped with phase := .writePass } }
            pattern := { passed with write := some 0 } }
            c.frames (writeRecords p.writeBlocks 0 blocks)) ∧
          (p.patternLoop = .internal → leaves ({ tracked with
            sweep := sweep, pattern := { passed with loopBuffer := blocks } }.seeks
              { stamped with phase := .move 0 } (clampTarget (z.centre - z.halfSpan)))
            c.frames []))) ∧
      (∀ i, wk.phase ∈ [.move i, .settleAt i] →
        let reading : Bay := { tracked with
          sweep := { c.bay.sweep with work := some { wk with phase := .read i } }
          pattern := { x.pattern with
            checker := .hunt, sinceRestart := 0, run := 0, winCompared := 0, winMismatches := 0
            capture := some ⟨p.readBlocks, 0, 0⟩, posCompared := 0, posMismatches := 0 } }
        (p.patternLoop = .off → leaves reading c.frames [.capture p.readBlocks]) ∧
        (p.patternLoop = .internal →
          let fed := (x.pattern.loopBuffer.take p.readBlocks).foldl takeBlock { c with bay := reading }
          let result := if x.pattern.loopBuffer.take p.readBlocks = [] then PosResult.missing
            else if fed.bay.pattern.checker = .locked then .count fed.bay.pattern.posMismatches else .noLock
          let results := wk.results ++ [result]
          let closed : Bay := { fed.bay with pattern := { fed.bay.pattern with capture := none } }
          (i + 1 < z.positions → leaves
            (closed.seeks { wk with phase := .move (i + 1), results := results }
              (clampTarget (z.centre + z.scanOffset (i + 1)))) fed.frames []) ∧
          (z.positions ≤ i + 1 → p.refHead ≠ x.ctrl.loopHead → leaves ({ closed with
            ctrl := { closed.ctrl with targetFinal := some (clampTarget z.centre) }
            pattern := { closed.pattern with write := none }
            sweep := { closed.sweep with
              phaseLimit := 0
              work := some { wk with
                phase := .loopSwitchBack, results := results
                formed := some (evaluateScan p z results x.sweep.number wk.seq wk.temp) } } }.onHead
              p.refHead) fed.frames [.head p.refHead]))))

/-- A NO_SYNC sample that brings the loss count of a FOLLOW bay to its threshold is a servo loss: SERVO_LOSS
is raised, the command is kept or 0 by loss_output, and the bay enters ACQUIRE with intent FOLLOW. Below
the threshold the row has nothing to do (R39; log entry 6). -/
def Obligations.ServoLossEntersAcquire : Prop :=
  ∀ (s : State) (b : BayIx) (h : Nat),
    let x := s.bays.get b
    let limit := match x.profile.lossMode with
      | .normal => 24
      | .extended => 1536
    let command := match x.profile.lossOutput with
      | .holdLast => x.ctrl.command
      | .zero => 0
    let free : State := { s with demod := ⟨none, s.demod.lastServed⟩ }
    s.demod.busy = some (b, ⟨h, none⟩) → x.ctrl.state = .follow → x.ctrl.switchWait = 0 →
    x.ctrl.selHead = x.ctrl.loopHead → x.sweep.active = false →
    (limit ≤ x.acq.loss + 1 →
      exec (.servoLoss b) s = .next (free.leaves b
        { x with
          acq := ⟨.follow, 0, 0, 0⟩
          counter := { x.counter with qp := none, resolved := false }
          ctrl := { x.ctrl with state := .acquire, command := command, settle := 0, frozen := false,
                                watch := none }
          unit := x.unit.setFlag .servoLoss }
        (x.unit.offers b (.servoLoss x.ctrl.selHead .follow limit .noSync)) [.drive command])) ∧
    (x.acq.loss + 1 < limit → exec (.servoLoss b) s = .next s)

/-- A sample delivered while the switch wait is above 0 is discarded: the wedge is classified, the wait falls
by one, and DRIVE carries the command that stands; the row SWITCH_WAIT_END is the sample that brings it to
0 (R55, R58; log entry 6). So in every powered state but SWEEP, and in SWEEP for RETURN and LOOP_SWITCH; in
SEEK, SETTLE and the phases of a scan that settle, the armed settle watch counts the sample (R63). In SWITCH
the sample that brings the wait to 0 ends the phase: HEAD_AVG begins with the window open on the measured
head, its count the largest power of two not above avg_count (R86, R92, R93). -/
def Obligations.SwitchWaitRuns : Prop :=
  ∀ (s : State) (b : BayIx) (w : Wedge) (k : Nat),
    let x := s.bays.get b
    let c := (classify w (s.ctx b)).1
    let free : State := { s with demod := ⟨none, s.demod.lastServed⟩ }
    let left : Bay := { c.bay with ctrl := { x.ctrl with switchWait := k } }
    let ends (y : Bay) : Prop :=
      exec .demodComplete s = .next (free.leaves b y c.frames [.drive x.ctrl.command]) ∧
        (k = 0 → exec (.switchWaitEnd b) s =
          .next (free.leaves b y c.frames [.drive x.ctrl.command])) ∧
        (k ≠ 0 → exec (.switchWaitEnd b) s = .next s)
    s.demod.busy = some (b, w) → x.ctrl.state ≠ .offline → x.ctrl.switchWait = k + 1 →
    (x.ctrl.state ≠ .sweep → x.ctrl.watch = none → ends left) ∧
    (∀ wk : Work, x.ctrl.state = .sweep → x.sweep.work = some wk →
      (wk.phase ∈ [.retHead, .loopSwitchOut, .loopSwitchBack] → x.ctrl.watch = none → ends left) ∧
      (∀ n i, wk.phase ∈ [.seek, .settle, .move i, .settleAt i] → x.ctrl.watch = some n →
        n + 1 < x.profile.settleTimeout →
        ends { left with ctrl := { left.ctrl with watch := some (n + 1) } }) ∧
      (wk.phase = .switch → x.ctrl.watch = none → k ≠ 0 → ends left) ∧
      (∀ e, wk.phase = .switch → x.ctrl.watch = none → k = 0 → 2 ≤ e → e ≤ 8 →
        2 ^ e ≤ x.profile.avgCount → x.profile.avgCount < 2 ^ (e + 1) →
        let h := match wk.job with
          | .offset h _ => h
          | .jog h _ => h
          | .visit _ => x.profile.driftHead
        ends { left with
          meas := { x.meas with window := some ⟨h, 2 ^ e, 0, 0, none, 0, 0, false⟩ }
          sweep := { c.bay.sweep with work := some { wk with phase := .headAvg } } }))

/-! ### The sweep engine's phases -/

/-- A settle timeout of an OFFSET step in SETTLE, on a NO_SYNC sample: the step ends FAILED with cause
SETTLE_TIMEOUT, its part is written, STEP_FAILED is raised, and with a hold cause in the set the bay is
HELD at the boundary (R63, R77, R82, R90, R137; that the row SETTLE_TIMEOUT runs the whole completion, with
its DRIVE record, is the model's choice, log entry 6). -/
def Obligations.SettleTimeoutFailsStep : Prop :=
  ∀ (s : State) (b : BayIx) (wh h z n : Nat) (w : Work),
    let x := s.bays.get b
    let free : State := { s with demod := ⟨none, s.demod.lastServed⟩ }
    let e := mapGet x.map h z
    let part : OffsetPart := ⟨.failed, some .settleTimeout, none, none, none, x.sweep.number, w.seq,
      w.temp, none, none⟩
    s.demod.busy = some (b, ⟨wh, none⟩) → x.ctrl.state = .sweep → x.ctrl.switchWait = 0 →
    x.ctrl.selHead = x.ctrl.loopHead → x.ctrl.frozen = false → x.acq.loss + 1 < lossThreshold x.profile →
    x.ctrl.watch = some n → x.profile.settleTimeout ≤ n + 1 → 0 < x.profile.settleCount →
    x.sweep.work = some w → w.phase = .settle → w.job = .offset h z → e.accepted = false →
    x.sweep.seqNext < 65536 → x.sweep.holds.isEmpty = false → x.sweep.measured < 65535 →
    exec (.settleTimeout b) s = .next (free.leaves b
      ({ x with
        acq := { x.acq with loss := x.acq.loss + 1 }
        ctrl := { x.ctrl with settle := 0, watch := none, state := .held }
        map := mapPut x.map h z { e with offset := some part }
        sweep := { x.sweep with work := none, measured := x.sweep.measured + 1,
                                lastStep := some .written } }.raising .stepFailed)
      (x.unit.offers b (.stepFailed h z .offset .settleTimeout (w.seq.getD 0)))
      [.drive x.ctrl.command])

/-- What an OFFSET step writes. In RETURN, on the POSITION sample of ref_head that ends it, with a hold cause
in the set: both windows in, the part is PROVISIONAL with the offset clamped to ±32,767, the amplitude of the
measured head, the larger spread, and the first finding of SPREAD, LOW_AMPLITUDE and OFFSET_RANGE, and the
offset count rises; with a cause kept from HEAD_AVG it is FAILED with it and STEP_FAILED is raised; a marked
entry discards either (R71, R77, R79, R82, R94, R95, R101). A step taken whose zone is undefined, or whose
head is at or above head_count, writes a FAILED part of its kind with NO_ZONE or NO_HEAD, with no number; an
OFFSET step of ref_head writes a GOOD part with offset 0, a number and the temperature, and raises no offset
count; the bay does not move and the next boundary follows at once (R77, R96, R137, R142; the reply of the
SWEEP_RESUME is log entry 17). With STEP_FAILED routed to HOLD the bay is HELD again there; a HELD bay has no
work in flight, being HELD at a boundary (R137), which Obligations.StepKeepsHeadsLaw keeps. -/
def Obligations.OffsetStepsAreWritten : Prop :=
  (∀ (s : State) (b : BayIx) (w : Wedge) (wk : Work) (h z : Nat),
    let x := s.bays.get b
    let c := (classify w (s.ctx b)).1
    let free : State := { s with demod := ⟨none, s.demod.lastServed⟩ }
    let e := mapGet x.map h z
    let up (n : Nat) : Nat := if n < 65535 then n + 1 else n
    let holds (d : Bay) (map : Table Entry) (sweep : Sweep) : Bay := { d with
      acq := { x.acq with loss := 0 }
      ctrl := { x.ctrl with settle := 0, frozen := false, state := .held, watch := none }
      map := map, sweep := { sweep with work := none } }
    s.demod.busy = some (b, w) → (classify w (s.ctx b)).2.cls = .position → x.ctrl.state = .sweep →
    x.ctrl.switchWait = 0 → x.ctrl.selHead = x.ctrl.loopHead → x.ctrl.frozen = true →
    x.ctrl.watch = none → x.sweep.work = some wk → wk.phase = .retHead → wk.job = .offset h z →
    x.sweep.seqNext < 65536 → c.bay.sweep.holds.isEmpty = false →
    (e.accepted = true → exec .demodComplete s = .next (free.leaves b
      (holds c.bay x.map { c.bay.sweep with
        skipped := up x.sweep.skipped, lastStep := some .discarded })
      c.frames [.drive x.ctrl.command])) ∧
    (∀ ref head : WindowResult, wk.cause = none → wk.refResult = some ref → wk.headResult = some head →
      e.accepted = false →
      let raw := head.mean - ref.mean
      let spread := max ref.spread head.spread
      let finding := if x.profile.spreadLimit < spread then some Cause.spread
        else if head.amplitude < x.profile.amplitudeFloor then some .lowAmplitude
        else if 32767 < raw.natAbs then some .offsetRange else none
      let part : OffsetPart := ⟨.provisional, none, finding, some (max (-32767) (min 32767 raw)), none,
        x.sweep.number, wk.seq, wk.temp, some head.amplitude, some spread⟩
      exec .demodComplete s = .next (free.leaves b
        { holds c.bay (mapPut x.map h z { e with offset := some part }) { c.bay.sweep with
            measured := up x.sweep.measured, lastStep := some .written } with
          meas := { x.meas with offsetCount := up x.meas.offsetCount } }
        c.frames [.drive x.ctrl.command])) ∧
    (∀ cause, wk.cause = some cause → e.accepted = false →
      let part : OffsetPart := ⟨.failed, some cause, none, none, none, x.sweep.number, wk.seq, wk.temp,
        none, none⟩
      let d := c.bay.raising .stepFailed
      exec .demodComplete s = .next (free.leaves b
        (holds d (mapPut x.map h z { e with offset := some part }) { d.sweep with
          measured := up x.sweep.measured, lastStep := some .written })
        (c.frames ++ c.bay.unit.offers b (.stepFailed h z .offset cause (wk.seq.getD 0)))
        [.drive x.ctrl.command]))) ∧
  (∀ (s : State) (tag : Byte) (b : BayIx) (zr : Zone) (id : Nat) (r r2 : StepRec) (rest : List StepRec),
    let x := s.bays.get b
    let g : Frame := ⟨0x45, tag, [b.byte]⟩
    let e := mapGet x.map r.head r.zone
    let cause := if zoneGet x.zones r.zone = none then Cause.noZone else .noHead
    let up (n : Nat) : Nat := if n < 65535 then n + 1 else n
    let bad := zoneGet x.zones r.zone = none ∨ x.profile.headCount ≤ r.head
    let unmade : OffsetPart := ⟨.failed, some cause, none, none, none, x.sweep.number, none, none, none, none⟩
    let failed : Entry := match r.kind with
      | .jog => { e with jog := some ⟨.failed, some cause, none, none, x.sweep.number, none, none⟩ }
      | _ => { e with offset := some unmade }
    let counted (plan : List StepRec) (sw : Sweep) : Sweep := { sw with
      holds := ⟨false, false, false, false, false⟩, plan := some (.probe id plan)
      measured := up x.sweep.measured, lastStep := some .written }
    let visits (y : Bay) : Bay := { y with
      sweep := { y.sweep with
        work := some ⟨.visit .planned, .seek, none, none, none, none, none, [], none⟩ }
      ctrl := { x.ctrl with state := .sweep, targetFinal := some (zr.track * 4096), settle := 0,
                            watch := some 0 } }
    let gives (y : Bay) (frames : List EventFrame) (state : Byte) : Prop :=
      exec (.sweepResume tag [b.byte]) s = .next (s.grants g b y frames [] .ok [0, state])
    s.takes g → x.canStep zr → x.sweep.probe = none → x.sweep.plan = some (.probe id (r :: r2 :: rest)) →
    r2.kind = .ref → r.kind ≠ .ref → e.accepted = false →
    (bad →
      let y : Bay := { x with
        map := mapPut x.map r.head r.zone failed, unit := x.unit.setFlag .stepFailed }
      let frames := x.unit.offers b (.stepFailed r.head r.zone r.kind cause 0)
      (x.unit.disposition .stepFailed ≠ .hold →
        gives (visits { y with sweep := counted rest x.sweep }) frames 4) ∧
      (x.unit.disposition .stepFailed = .hold → x.sweep.work = none →
        gives { y with
          sweep := { counted (r2 :: rest) x.sweep with holds := ⟨false, false, false, false, true⟩ }
          ctrl := { x.ctrl with watch := none } } frames 5)) ∧
    (¬ bad → r.kind = .offset → r.head = x.profile.refHead → x.sweep.seqNext + 1 < 65536 →
      let zero : OffsetPart := ⟨.good, none, none, some 0, none, x.sweep.number, some x.sweep.seqNext,
        x.thermal.temp, none, none⟩
      let sw : Sweep := { counted rest x.sweep with seqNext := x.sweep.seqNext + 1 }
      gives (visits { x with
        map := mapPut x.map r.head r.zone { e with offset := some zero }, sweep := sw }) [] 4))

/-- A window of N opened and given samples counts every sample as delivered and collects the POSITION samples
of its head; WEAK and UNPLACED samples of its head only set sync seen (R86, R87). When it has collected N it
forms the mean of their positions and of their burst sums, each rounded to the nearest integer, halves away
from 0, and the spread of their positions, saturating at 65,535 (R88). -/
def Obligations.WindowsCollect : Prop :=
  ∀ (head size : Nat) (samples : List Sample),
    let win : Window := samples.foldl (fun (w : Window) y => w.deliver.collect y)
      ⟨head, size, 0, 0, none, 0, 0, false⟩
    let taken : List (Int × Nat) := samples.filterMap fun y =>
      if y.head = head ∧ y.cls = .position then y.position.map fun pos => (pos, y.burstSum.getD 0)
      else none
    let r := win.result
    let sum : Int := (taken.map Prod.fst).sum
    let bursts : Nat := (taken.map Prod.snd).sum
    (∀ y ∈ samples, y.cls = .position → y.position ≠ none) →
    win.head = head ∧ win.size = size ∧ win.delivered = samples.length ∧
    win.collected = taken.length ∧ win.sum = sum ∧ win.bursts = bursts ∧
    (win.syncSeen = true ↔ ∃ y ∈ samples, y.head = head ∧ y.cls ≠ .noSync ∧ y.cls ≠ .foreign) ∧
    (0 < size → taken.length = size →
      (2 * (sum - size * r.mean).natAbs ≤ size ∧
        (2 * (sum - size * r.mean).natAbs = size → sum.natAbs ≤ (size * r.mean).natAbs)) ∧
      2 * bursts < size * (2 * r.amplitude + 1) ∧ size * (2 * r.amplitude) ≤ 2 * bursts + size ∧
      ∃ lo ∈ taken, ∃ hi ∈ taken, (∀ q ∈ taken, lo.1 ≤ q.1 ∧ q.1 ≤ hi.1) ∧
        r.spread = min 65535 (hi.1 - lo.1).toNat)

/-- A sample that reaches the sweep engine in REF_AVG or HEAD_AVG acts on the window; the loop hears it first,
which in HEAD_AVG is frozen. Short of N and of the limit 4N + 64 the window stays open. At N, a window of
REF_AVG keeps its result, closes, and SWITCH begins: the command is frozen and the measured head selected
with a HEAD record and a switch wait; a window of HEAD_AVG keeps its result, closes, and RETURN selects
ref_head (R57, R88, R91 to R94). At the limit short of N the cause is NO_SAMPLES or NO_SERVO by whether sync
was seen. In REF_AVG the measurement fails with it: the part of an OFFSET step is written and STEP_FAILED
raised, or it is discarded at a marked entry, and a planned visit below the third failure is counted as
failed; with a hold cause in the set the bay is then HELD. In HEAD_AVG the cause is kept and RETURN begins
(R77, R79, R82, R89, R91, R93, R98, R100, R137, R142; that the row WINDOW_TIMEOUT runs the whole completion
is the model's choice, log entry 6). -/
def Obligations.WindowsEnd : Prop :=
  ∀ (s : State) (b : BayIx) (w : Wedge) (y : Sample) (wk : Work) (before : Window),
    let x := s.bays.get b
    let c := (classify w (s.ctx b)).1
    let free : State := { s with demod := ⟨none, s.demod.lastServed⟩ }
    let heard := c.bay.heard y
    let win := before.deliver.collect y
    let cause := if win.syncSeen = true then Cause.noSamples else .noServo
    let selects (h : Nat) (wk2 : Work) : Bay := { heard with
      acq := { x.acq with run := 0, loss := 0 }
      counter := { c.bay.counter with qp := none, resolved := false }
      ctrl := { heard.ctrl with selHead := h, switchWait := x.profile.headSwitchWedges, settle := 0 }
      meas := { x.meas with window := none }
      sweep := { c.bay.sweep with work := some wk2 } }
    s.demod.busy = some (b, w) → (classify w (s.ctx b)).2 = y → x.ctrl.state = .sweep →
    x.ctrl.switchWait = 0 → x.ctrl.watch = none → x.sweep.work = some wk →
    x.meas.window = some before →
    (x.ctrl.selHead = x.ctrl.loopHead → x.acq.loss + 1 < lossThreshold x.profile) →
    (wk.phase = .refAvg ∨ wk.phase = .headAvg → win.collected < win.size →
      win.delivered < 4 * win.size + 64 → exec .demodComplete s = .next (free.leaves b
        { heard with meas := { x.meas with window := some win } } c.frames
        [.drive heard.ctrl.command])) ∧
    (∀ h, wk.phase = .refAvg → win.size ≤ win.collected →
      (h = match wk.job with
        | .offset h _ => h
        | .jog h _ => h
        | .visit _ => x.profile.driftHead) → h ≠ x.ctrl.selHead →
      let d := selects h { wk with phase := .switch, refResult := some win.result }
      exec .demodComplete s = .next (free.leaves b
        { d with ctrl := { d.ctrl with frozen := true } } c.frames
        [.head h, .drive heard.ctrl.command])) ∧
    (wk.phase = .headAvg → x.ctrl.selHead ≠ x.profile.refHead → win.size ≤ win.collected →
      let d := selects x.profile.refHead { wk with phase := .retHead, headResult := some win.result }
      exec .demodComplete s = .next (free.leaves b
        { d with sweep := { d.sweep with phaseLimit := 0 } } c.frames
        [.head x.profile.refHead, .drive heard.ctrl.command])) ∧
    (∀ i, i = .demodComplete ∨ i = .windowTimeout b → win.collected < win.size →
      4 * win.size + 64 ≤ win.delivered →
      (wk.phase = .refAvg → x.sweep.seqNext < 65536 → c.bay.sweep.holds.isEmpty = false →
        let up (n : Nat) : Nat := if n < 65535 then n + 1 else n
        let holds (d : Bay) (map : Table Entry) (failed : Nat) (sweep : Sweep) : Bay := { d with
          ctrl := { heard.ctrl with state := .held }
          meas := { x.meas with window := none, failedVisits := failed }
          map := map, sweep := { sweep with work := none } }
        (∀ h z, wk.job = .offset h z →
          let e := mapGet x.map h z
          let part : OffsetPart := ⟨.failed, some cause, none, none, none, x.sweep.number, wk.seq,
            wk.temp, none, none⟩
          let d := heard.raising .stepFailed
          (e.accepted = false → exec i s = .next (free.leaves b
            (holds d (mapPut x.map h z { e with offset := some part }) x.meas.failedVisits { d.sweep with
              measured := up x.sweep.measured, lastStep := some .written })
            (c.frames ++ c.bay.unit.offers b (.stepFailed h z .offset cause (wk.seq.getD 0)))
            [.drive heard.ctrl.command])) ∧
          (e.accepted = true → exec i s = .next (free.leaves b
            (holds heard x.map x.meas.failedVisits { c.bay.sweep with
              skipped := up x.sweep.skipped, lastStep := some .discarded })
            c.frames [.drive heard.ctrl.command]))) ∧
        (wk.job = .visit .planned → x.meas.failedVisits + 1 < 3 → exec i s = .next (free.leaves b
          (holds heard x.map (x.meas.failedVisits + 1) { c.bay.sweep with
            measured := up x.sweep.measured, lastStep := some .written })
          c.frames [.drive heard.ctrl.command]))) ∧
      (wk.phase = .headAvg → x.ctrl.selHead ≠ x.profile.refHead →
        let d := selects x.profile.refHead { wk with phase := .retHead, cause := some cause }
        exec i s = .next (free.leaves b
          { d with sweep := { d.sweep with phaseLimit := 0 } } c.frames
          [.head x.profile.refHead, .drive heard.ctrl.command])))

/-- A servo loss of an active sweep on a NO_SYNC sample: by the loss count in SWEEP and HELD, and in SWEEP by
RETURN or LOOP_SWITCH coming to its limit of settle_timeout samples. SERVO_LOSS is raised, the command is
kept or 0 by loss_output, and the bay enters ACQUIRE. Below the fourth loss of the sweep the work in flight,
if any, is interrupted and waits for reacquisition with its sequence number and temperature; the fourth
ends the sweep LOST_SERVO, and the bay, its reference head restored, stays in ACQUIRE with intent FOLLOW
(R39, R53, R94, R116, R124, R147, R149; that the rows SERVO_LOSS, RETURN_LIMIT and LOOP_SWITCH_LIMIT run the
whole completion, and the phase of interrupted work, are the model's choices, log entries 6 and 27). -/
def Obligations.ServoLossInSweep : Prop :=
  ∀ (s : State) (b : BayIx) (i : Instr) (wh : Nat),
    let x := s.bays.get b
    let raised := x.raising .servoLoss
    let free : State := { s with demod := ⟨none, s.demod.lastServed⟩ }
    let command := match x.profile.lossOutput with
      | .holdLast => x.ctrl.command
      | .zero => 0
    let limited (w : Work) : Prop := x.ctrl.state = .sweep ∧ x.sweep.work = some w ∧
      x.ctrl.watch = none ∧ x.acq.loss + 1 < lossThreshold x.profile ∧
      x.profile.settleTimeout ≤ x.sweep.phaseLimit + 1
    let lost : Bay := { raised with
      acq := ⟨.sweep, 0, 0, 0⟩
      counter := { x.counter with qp := none, resolved := false }
      ctrl := { x.ctrl with state := .acquire, command := command, settle := 0, frozen := false,
                            watch := none } }
    let frames := x.unit.offers b
      (.servoLoss x.ctrl.selHead x.ctrl.state (lossThreshold x.profile) .noSync)
    (i = .servoLoss b ∧ (x.ctrl.state = .sweep ∨ x.ctrl.state = .held) ∧
        lossThreshold x.profile ≤ x.acq.loss + 1) ∨
      (∃ w, limited w ∧ i = .returnLimit b ∧ w.phase = .retHead) ∨
      (∃ w, limited w ∧ i = .loopSwitchLimit b ∧
        (w.phase = .loopSwitchOut ∨ w.phase = .loopSwitchBack)) →
    s.demod.busy = some (b, ⟨wh, none⟩) → x.ctrl.switchWait = 0 →
    x.ctrl.selHead = x.ctrl.loopHead → x.sweep.active = true →
    (x.sweep.retry < 3 → exec i s = .next (free.leaves b
      { lost with
        meas := { x.meas with window := none }
        pattern := { x.pattern with write := none, capture := none }
        sweep := { raised.sweep with
          retry := x.sweep.retry + 1, phaseLimit := 0
          work := x.sweep.work.map fun w =>
            ⟨w.job, .interrupted, w.seq, w.temp, none, none, none, [], none⟩ } }
      frames [.drive command])) ∧
    (3 ≤ x.sweep.retry →
      let y : Bay := { lost with sweep := { x.sweep with retry := x.sweep.retry + 1 } }
      exec i s = .next (free.leaves b
        { y.sweepEnded .lostServo with
          acq := ⟨.follow, 0, 0, 0⟩
          ctrl := lost.ctrl.restored x.profile }
        (frames ++ y.doneFrames b .lostServo)
        (headIfChanged x.ctrl.selHead x.profile.refHead ++ [.drive command])))

/-- The eighth revolution mark of an outstanding write, on a FOREIGN sample: the JOG step fails with
WRITE_TIMEOUT, the zone centre is the target, and the return LOOP_SWITCH to ref_head begins with the
failed part carried (R55, R56, R109, R118, R124). The fourth revolution mark of an open capture: the
capture ends with the blocks it has, the position's result is MISSING when there were none, and MOVE of
the next position begins (R110, R114, R120). A settle timeout in a SETTLE of a scan position fails the step
with SETTLE_TIMEOUT, the results of earlier positions dropped, and begins the return LOOP_SWITCH (R63,
R119, R124). The two failures are of a head other than ref_head, Obligations.JogOfRefHeadEnds having the
others; that a row of a timeout runs the whole completion is the model's choice, log entry 6. -/
def Obligations.JogTimeouts : Prop :=
  ∀ (s : State) (b : BayIx) (wh : Nat) (y : WedgeSync) (w : Work),
    let x := s.bays.get b
    let free : State := { s with demod := ⟨none, s.demod.lastServed⟩ }
    let z := jobZone w.job (s.ctx b)
    let failed (cause : Cause) (results : List PosResult) : Bay := { x with
      acq := { x.acq with run := 0, loss := 0 }
      counter := { x.counter with qp := none, resolved := false }
      ctrl := { x.ctrl with
        targetFinal := some (clampTarget z.centre), targetNow := none, prevErr := none, settle := 0,
        watch := none, loopHead := x.profile.refHead, selHead := x.profile.refHead,
        switchWait := x.profile.headSwitchWedges }
      pattern := { x.pattern with write := none, capture := none }
      sweep := { x.sweep with
        phaseLimit := 0,
        work := some { w with
          phase := .loopSwitchBack, results := results,
          formed := some ⟨.failed, some cause, none, none, x.sweep.number, w.seq, w.temp⟩ } } }
    s.demod.busy = some (b, ⟨wh, some y⟩) → wh ≠ x.ctrl.selHead → x.ctrl.state = .sweep →
    x.ctrl.switchWait = 0 → x.ctrl.selHead = x.ctrl.loopHead →
    x.acq.loss + 1 < lossThreshold x.profile → x.sweep.work = some w →
    (∀ h zn n, w.job = .jog h zn → x.profile.refHead ≠ x.ctrl.loopHead → y.index = 0 →
      x.ctrl.watch = none → w.phase = .writePass → x.pattern.write = some n → 8 ≤ n + 1 →
      exec (.writeTimeout b) s = .next (free.leaves b (failed .writeTimeout [])
        [] [.head x.profile.refHead, .drive x.ctrl.command])) ∧
    (∀ k (cap : Capture), y.index = 0 → x.ctrl.watch = none → w.phase = .read k →
      x.pattern.capture = some cap → 4 ≤ cap.revs + 1 → k + 1 < z.positions →
      exec (.captureTimeout b) s = .next (free.leaves b
        { x with
          acq := { x.acq with loss := x.acq.loss + 1 }
          ctrl := { x.ctrl with
            targetFinal := some (clampTarget (z.centre + z.scanOffset (k + 1))), settle := 0,
            watch := some 0 }
          pattern := { x.pattern with capture := none }
          sweep := { x.sweep with
            work := some { w with
              results := w.results ++ [if cap.received = 0 then PosResult.missing
                else if x.pattern.checker = .locked then .count x.pattern.posMismatches else .noLock]
              phase := .move (k + 1) } } }
        [] [.drive x.ctrl.command])) ∧
    (∀ h zn n k, w.job = .jog h zn → x.profile.refHead ≠ x.ctrl.loopHead → w.phase = .settleAt k →
      x.ctrl.frozen = false → 0 < x.profile.settleCount → x.ctrl.watch = some n →
      x.profile.settleTimeout ≤ n + 1 →
      exec (.settleTimeout b) s = .next (free.leaves b (failed .settleTimeout [])
        [] [.head x.profile.refHead, .drive x.ctrl.command]))

/-- A JOG step interrupted by a servo loss begins again when acquisition completes into SWEEP, with the outbound
LOOP_SWITCH, its number and temperature kept: on another head, that head becomes the loop head with a HEAD
record and a switch wait; on the loop head, now seeded, SEEK begins at once (R34, R56, R116, R147; the
previous error's absence and the head in ACQUIRED are log entries 14 and 19). The outbound LOOP_SWITCH ends
on the sample that seeds the loop, on which SEEK begins (R116). The return LOOP_SWITCH ends on such a
sample, and the part it carries is written to the Head Map, with STEP_FAILED if it is FAILED, or discarded
at a marked entry; with a hold cause in the set the bay is HELD (R77, R79, R82, R124, R137). A sample that
is not a POSITION, short of settle_timeout, raises the phase-limit count in both and in RETURN (R94, R116,
R124, R134). -/
def Obligations.LoopSwitchesRun : Prop :=
  ∀ (s : State) (b : BayIx) (w : Wedge) (y : Sample) (wk : Work),
    let x := s.bays.get b
    let c := (classify w (s.ctx b)).1
    let free : State := { s with demod := ⟨none, s.demod.lastServed⟩ }
    let track := (jobZone wk.job (s.ctx b)).centre
    let up (n : Nat) : Nat := if n < 65535 then n + 1 else n
    let leaves (d : Bay) (frames : List EventFrame) (records : List OutRecord) : Prop :=
      exec .demodComplete s = .next (free.leaves b d frames (records ++ [.drive x.ctrl.command]))
    s.demod.busy = some (b, w) → (classify w (s.ctx b)).2 = y → x.ctrl.switchWait = 0 →
    x.ctrl.selHead = x.ctrl.loopHead → x.sweep.work = some wk →
    (∀ pos h z, y.cls = .position → y.position = some pos → x.ctrl.state = .acquire →
      x.acq.intent = .sweep → x.profile.acqCount ≤ min 255 (x.acq.run + 1) → wk.job = .jog h z →
      let d := { c.bay with
        acq := { x.acq with run := 0, loss := 0 }
        ctrl := { x.ctrl with state := .sweep, targetNow := some pos, prevErr := none } }.raising .acquired
      let d := { d with sweep := { d.sweep with phaseLimit := 0 } }
      let frames := c.frames ++ c.bay.unit.offers b (.acquired x.ctrl.selHead pos .sweep x.acq.elapsed)
      (h = x.ctrl.loopHead → leaves (d.seeks { wk with phase := .seek } (clampTarget track)) frames []) ∧
      (h ≠ x.ctrl.loopHead →
        leaves { d.onHead h with
          sweep := { d.sweep with work := some { wk with phase := .loopSwitchOut } } } frames [.head h])) ∧
    (x.ctrl.state = .sweep → x.ctrl.watch = none →
      (∀ pos, y.cls = .position → y.position = some pos → y.head = x.ctrl.loopHead →
        x.ctrl.frozen = false → x.ctrl.targetNow = none →
        let seeded : Bay := { c.bay with
          acq := { x.acq with loss := 0 }, ctrl := { x.ctrl with targetNow := some pos, settle := 0 } }
        (wk.phase = .loopSwitchOut →
          leaves (seeded.seeks { wk with phase := .seek } (clampTarget track)) c.frames []) ∧
        (∀ h z part, wk.phase = .loopSwitchBack → wk.job = .jog h z → wk.formed = some part →
          x.sweep.seqNext < 65536 → c.bay.sweep.holds.isEmpty = false →
          let e := mapGet x.map h z
          let written (d : Bay) : Bay := { d with
            ctrl := { seeded.ctrl with state := .held }
            map := mapPut x.map h z { e with jog := some part }
            sweep := { d.sweep with
              work := none, measured := up x.sweep.measured, lastStep := some .written } }
          (e.accepted = false → part.status ≠ .failed → leaves (written seeded) c.frames []) ∧
          (∀ cause, e.accepted = false → part.status = .failed → part.cause = some cause →
            leaves (written (seeded.raising .stepFailed))
              (c.frames ++ c.bay.unit.offers b (.stepFailed h z .jog cause (part.seq.getD 0))) []) ∧
          (e.accepted = true → leaves { seeded with
            ctrl := { seeded.ctrl with state := .held }
            sweep := { c.bay.sweep with
              work := none, skipped := up x.sweep.skipped, lastStep := some .discarded } } c.frames []))) ∧
      (y.cls ≠ .position → wk.phase ∈ [.retHead, .loopSwitchOut, .loopSwitchBack] →
        (y.cls = .noSync ∨ y.cls = .foreign → x.acq.loss + 1 < lossThreshold x.profile) →
        x.sweep.phaseLimit + 1 < x.profile.settleTimeout →
        leaves { c.bay.heard y with
          sweep := { c.bay.sweep with phaseLimit := x.sweep.phaseLimit + 1 } } c.frames []))

/-- A JOG step of ref_head, the loop seeded: its return LOOP_SWITCH is over at the event that begins it, and its
part is written there (R124). The eighth revolution mark of an outstanding write, or a settle timeout in a
SETTLE of a scan position, each on a FOREIGN sample, writes the FAILED part with STEP_FAILED; the last
READBACK block of the last position writes the part that the scan gives. The zone centre is the target,
and with a hold cause in the set the bay is HELD (R77, R82, R109, R118 to R123, R137, R142; that a row of a
timeout runs the whole completion is log entry 6). -/
def Obligations.JogOfRefHeadEnds : Prop :=
  ∀ (s : State) (b : BayIx) (wk : Work) (h z i : Nat) (now : Int),
    let x := s.bays.get b
    let free : State := { s with demod := ⟨none, s.demod.lastServed⟩ }
    let zr := jobZone wk.job (s.ctx b)
    let e := mapGet x.map h z
    let ended (d : Bay) (part : JogPart) (loss : Nat) : Bay := { d with
      acq := { x.acq with loss := loss }
      ctrl := { x.ctrl with
        targetFinal := some (clampTarget zr.centre), settle := 0, state := .held, watch := none }
      pattern := { d.pattern with write := none, capture := none }
      map := mapPut x.map h z { e with jog := some part }
      sweep := { d.sweep with
        work := none, phaseLimit := 0, lastStep := some .written
        measured := if x.sweep.measured < 65535 then x.sweep.measured + 1 else x.sweep.measured } }
    x.ctrl.state = .sweep → x.ctrl.selHead = x.ctrl.loopHead → x.profile.refHead = x.ctrl.loopHead →
    x.ctrl.targetNow = some now → x.sweep.work = some wk → wk.job = .jog h z → e.accepted = false →
    x.sweep.seqNext < 65536 →
    (∀ (wh n : Nat) (y : WedgeSync) (row : Instr) (cause : Cause),
      s.demod.busy = some (b, ⟨wh, some y⟩) → wh ≠ x.ctrl.selHead → x.ctrl.switchWait = 0 →
      x.acq.loss + 1 < lossThreshold x.profile → x.sweep.holds.isEmpty = false →
      (row = .writeTimeout b ∧ cause = .writeTimeout ∧ y.index = 0 ∧ x.ctrl.watch = none ∧
          wk.phase = .writePass ∧ x.pattern.write = some n ∧ 8 ≤ n + 1) ∨
        (row = .settleTimeout b ∧ cause = .settleTimeout ∧ wk.phase = .settleAt i ∧
          x.ctrl.frozen = false ∧ 0 < x.profile.settleCount ∧ x.ctrl.watch = some n ∧
          x.profile.settleTimeout ≤ n + 1) →
      exec row s = .next (free.leaves b
        (ended (x.raising .stepFailed)
          ⟨.failed, some cause, none, none, x.sweep.number, wk.seq, wk.temp⟩ (x.acq.loss + 1))
        (x.unit.offers b (.stepFailed h z .jog cause (wk.seq.getD 0))) [.drive x.ctrl.command])) ∧
    (∀ (bits : List Bool) (cap : Capture),
      let fed := feedBits bits (s.ctx b)
      let results := wk.results ++ [if fed.bay.pattern.checker = .locked then
        PosResult.count fed.bay.pattern.posMismatches else .noLock]
      let part := evaluateScan x.profile zr results x.sweep.number wk.seq wk.temp
      1 ≤ bits.length → bits.length ≤ 256 → x.pattern.capture = some cap → wk.phase = .read i →
      cap.expected = cap.received + 1 → zr.positions ≤ i + 1 → fed.bay.sweep.holds.isEmpty = false →
      (part.status ≠ .failed →
        exec (.readback b bits) s = .next (s.leaves b (ended fed.bay part x.acq.loss) fed.frames [])) ∧
      (∀ cause, part.status = .failed → part.cause = some cause →
        exec (.readback b bits) s = .next (s.leaves b
          (ended (fed.bay.raising .stepFailed) part x.acq.loss)
          (fed.frames ++ fed.bay.unit.offers b (.stepFailed h z .jog cause (wk.seq.getD 0))) [])))

/-- A planned visit in RETURN, on the POSITION sample of ref_head that ends it, with a hold cause in the set.
Both windows in and no finding: it succeeds, and its record joins the log, at 64 records in place of the
second-oldest; every PROVISIONAL part takes its correction, the line through the log's newest record and
this one less ref0, and becomes GOOD, or SUSPECT with its finding or with DRIFT_EXCESS when the two values
differ by more than drift_limit, which raises DRIFT_EXCESS; the triggers, the offset count, the elapsed
time and the failed-visit count are cleared (R98 to R103, R80). A timeout or a finding: it fails, and only
the failed-visit count rises; at 3 the sweep ends REF_FAILED (R100). Either way the step counts as
measured and the bay is HELD at the boundary (R137, R142). The line is rounded to the nearest integer,
halves away from 0. -/
def Obligations.VisitEnds : Prop :=
  (∀ (s : State) (b : BayIx) (w : Wedge) (wk : Work) (ref head : WindowResult),
    let x := s.bays.get b
    let c := (classify w (s.ctx b)).1
    let free : State := { s with demod := ⟨none, s.demod.lastServed⟩ }
    let raw := head.mean - ref.mean
    let good := wk.cause = none ∧ ref.spread ≤ x.profile.spreadLimit ∧
      head.spread ≤ x.profile.spreadLimit ∧ x.profile.amplitudeFloor ≤ head.amplitude ∧
      -32767 ≤ raw ∧ raw ≤ 32767
    let made : RefRecord := ⟨wk.seq.getD 0, raw, wk.temp⟩
    let log := x.meas.log
    let excess := ∃ a, log.getLast? = some a ∧ x.profile.driftLimit < (raw - a.value).natAbs
    let corrected (a : RefRecord) (ref0 : Int) (p : OffsetPart) : OffsetPart :=
      let cause := if p.finding = none ∧ x.profile.driftLimit < (raw - a.value).natAbs then
        some Cause.driftExcess else p.finding
      { p with
        status := if cause = none then .good else .suspect, cause := cause, finding := none
        correction := some (interp a made (p.seq.getD 0) - ref0) }
    let heldAs (d : Bay) (th : Thermal) (map : Table Entry) (meas : Meas) : Bay := { d with
      acq := { x.acq with loss := 0 }
      ctrl := { x.ctrl with settle := 0, frozen := false, state := .held, watch := none }
      map := map, meas := meas, thermal := th
      sweep := { d.sweep with
        work := none, measured := x.sweep.measured + 1, lastStep := some .written } }
    s.demod.busy = some (b, w) → (classify w (s.ctx b)).2.cls = .position → x.ctrl.state = .sweep →
    x.ctrl.switchWait = 0 → x.ctrl.selHead = x.ctrl.loopHead → x.ctrl.frozen = true →
    x.ctrl.watch = none → x.sweep.work = some wk → wk.phase = .retHead →
    wk.job = .visit .planned → wk.refResult = some ref → wk.headResult = some head →
    x.sweep.seqNext < 65536 → x.sweep.measured < 65535 → c.bay.sweep.holds.isEmpty = false →
    (good → ∃ m : Table Entry,
      let meas : Meas := { x.meas with
        log := (if log.length < 64 then log else log.take 1 ++ log.drop 2) ++ [made]
        failedVisits := 0, offsetCount := 0, elapsed := 0
        dueCount := false, dueTime := false, dueTemp := false }
      (¬ excess → exec .demodComplete s = .next (free.leaves b
        (heldAs c.bay { x.thermal with lastRef := wk.temp } m meas)
        c.frames [.drive x.ctrl.command])) ∧
      (∀ a, log.getLast? = some a → x.profile.driftLimit < (raw - a.value).natAbs →
        exec .demodComplete s = .next (free.leaves b
          (heldAs (c.bay.raising .driftExcess) { x.thermal with lastRef := wk.temp } m meas)
          (c.frames ++ c.bay.unit.offers b (.driftExcess a.seq a.value made.seq raw (raw - a.value)
            (provisionalCount x.map false) (provisionalCount x.map true)))
          [.drive x.ctrl.command])) ∧
      ∀ h z, let e := mapGet x.map h z
        mapGet m h z = match log.head?, log.getLast?, e.offset with
          | some first, some a, some p => if p.status = .provisional then
              { e with offset := some (corrected a first.value p) } else e
          | _, _, _ => e) ∧
    (¬ good → x.meas.failedVisits + 1 < 3 → exec .demodComplete s = .next (free.leaves b
      (heldAs c.bay x.thermal x.map { x.meas with failedVisits := x.meas.failedVisits + 1 })
      c.frames [.drive x.ctrl.command])) ∧
    (¬ good → 3 ≤ x.meas.failedVisits + 1 → ∃ t, exec .demodComplete s = .next t ∧
      (t.bays.get b).sweep.active = false ∧ (t.bays.get b).sweep.work = none ∧
      (t.bays.get b).sweep.lastOutcome = some .refFailed ∧
      (t.bays.get b).meas.log = log ∧ (t.bays.get b).meas.failedVisits = x.meas.failedVisits + 1 ∧
      (t.bays.get b).map = mapProvisional OffsetPart.unclosed x.map)) ∧
  (∀ (a r : RefRecord) (n : Nat), a.seq < r.seq →
    let num := a.value * ((r.seq : Int) - a.seq) + (r.value - a.value) * ((n : Int) - a.seq)
    let den := (r.seq : Int) - a.seq
    2 * (num - den * interp a r n).natAbs ≤ den ∧
      (2 * ((num - den * interp a r n).natAbs : Int) = den → num.natAbs ≤ (den * interp a r n).natAbs))

/-- Where the engine goes on after a visit in RETURN, on the POSITION sample of ref_head that ends it. A visit
with both windows in and no finding succeeds, as a planned one does (Obligations.VisitEnds); the others
fail, and only the failed-visit count rises. The third failure in a row ends the sweep REF_FAILED. After
a successful opening visit, and after an inline visit that succeeded or failed, step 4 of the boundary
follows with no test of the hold causes, here with a planned REF visit next; after an inline visit with
the sequence counter used up the sweep ends ABORTED. A successful closing visit ends the sweep COMPLETE, the
bay in FOLLOW. After a failed opening or closing visit the boundary starts at its hold check: the bay is
HELD by a hold cause, else the opening visit runs again, and the closing visit with no trigger due, no
probe and no plan left (R53, R98, R100, R104, R138, R143, R149). -/
def Obligations.VisitsGoOn : Prop :=
  ∀ (s : State) (b : BayIx) (w : Wedge) (wk : Work) (kind : VisitKind) (ref head : WindowResult) (z : Zone)
      (id : Nat) (rest : List StepRec),
    let x := s.bays.get b
    let c := (classify w (s.ctx b)).1
    let free : State := { s with demod := ⟨none, s.demod.lastServed⟩ }
    let raw := head.mean - ref.mean
    let good := wk.cause = none ∧ ref.spread ≤ x.profile.spreadLimit ∧
      head.spread ≤ x.profile.spreadLimit ∧ x.profile.amplitudeFloor ≤ head.amplitude ∧
      -32767 ≤ raw ∧ raw ≤ 32767
    let ended : Bay := { c.bay with
      acq := { x.acq with loss := 0 }, ctrl := { x.ctrl with settle := 0, frozen := false }
      sweep := { c.bay.sweep with work := none } }
    let won := visitSucceeds ⟨wk.seq.getD 0, raw, wk.temp⟩ { c with bay := ended }
    let lost : Bay := { ended with meas := { x.meas with failedVisits := x.meas.failedVisits + 1 } }
    let planned (d : Bay) : Bay :=
      { d with sweep := { d.sweep with plan := some (.probe id rest) } }.visits .planned z.track
    let held : Bay := { lost with ctrl := { lost.ctrl with state := .held } }
    let leaves (d : Bay) (frames : List EventFrame) : Prop :=
      exec .demodComplete s = .next (free.leaves b d frames [.drive x.ctrl.command])
    s.demod.busy = some (b, w) → (classify w (s.ctx b)).2.cls = .position → x.ctrl.state = .sweep →
    x.ctrl.switchWait = 0 → x.ctrl.selHead = x.ctrl.loopHead → x.ctrl.frozen = true →
    x.ctrl.watch = none → x.sweep.work = some wk → wk.phase = .retHead → wk.job = .visit kind →
    wk.refResult = some ref → wk.headResult = some head → x.sweep.active = true →
    zoneGet x.zones x.profile.refZone = some z → z.track ≤ 524287 →
    (good → kind = .opening → x.meas.log = [] → x.sweep.refNext id rest →
      leaves (planned won.bay) won.frames) ∧
    (kind = .onTrigger → x.sweep.seqNext < 65536 → x.sweep.refNext id rest →
      (good → leaves (planned won.bay) won.frames) ∧
      (¬ good → x.meas.failedVisits + 1 < 3 → leaves (planned lost) c.frames)) ∧
    (good → kind = .closing → x.profile.refHead = x.ctrl.loopHead →
      let d := won.bay
      leaves { d with
        ctrl := { d.ctrl with state := .follow }
        meas := { d.meas with window := none }
        pattern := { d.pattern with write := none, capture := none }
        sweep := { d.sweep with
          active := false, phaseLimit := 0, probe := none, stack := [], plan := none, basePlan := .finished
          holds := ⟨false, false, false, false, false⟩, lastOutcome := some .complete }
        unit := d.unit.setFlag .sweepDone }
        (won.frames ++ d.unit.offers b (.sweepDone x.sweep.number .complete x.sweep.measured
          x.sweep.skipped x.sweep.lost (suspectCount d.map x.sweep.number)))) ∧
    (¬ good → x.meas.failedVisits + 1 < 3 → x.sweep.seqNext < 65536 →
      (kind = .opening ∨ kind = .closing → c.bay.sweep.holds.isEmpty = false → leaves held c.frames) ∧
      (kind = .opening → c.bay.sweep.holds.isEmpty = true → x.meas.log = [] →
        leaves (lost.visits .opening z.track) c.frames) ∧
      (kind = .closing → c.bay.sweep.holds.isEmpty = true → x.meas.log ≠ [] → x.isDue = false →
        x.sweep.probe = none → x.sweep.plan = none → x.sweep.stack = [] → anyProvisional x.map = true →
        leaves (lost.visits .closing z.track) c.frames)) ∧
    (∀ o, (o = .refFailed ∧ ¬ good ∧ 3 ≤ x.meas.failedVisits + 1) ∨
        (o = .aborted ∧ kind = .onTrigger ∧ 65536 ≤ x.sweep.seqNext ∧
          (good ∨ x.meas.failedVisits + 1 < 3)) →
      ∃ t, exec .demodComplete s = .next t ∧ (t.bays.get b).sweep.active = false ∧
        (t.bays.get b).sweep.work = none ∧ (t.bays.get b).sweep.lastOutcome = some o ∧
        ∀ a, a ≠ b → t.bays.get a = s.bays.get a)

/-- The boundary of a HELD bay that SWEEP_RESUME sets free, its log not empty and no trigger due: a pending
probe suspends a current plan with steps left on the resume stack, finishes one without, and becomes the
current plan, a full stack losing its oldest plan with RESUME_LOST; then the current plan's first step is
taken, or that of the plan popped from the stack; a step aimed at a marked entry is SKIPPED and the next
one taken; a REF step begins a planned visit; and with every plan exhausted the sweep ends COMPLETE, or its
closing visit begins while a PROVISIONAL part stands (R78, R104, R138 to R142, R146, R149; the set and
state in the reply are log entry 17). -/
def Obligations.BoundaryTakesSteps : Prop :=
  ∀ (s : State) (tag : Byte) (b : BayIx) (z : Zone),
    let x := s.bays.get b
    let g : Frame := ⟨0x45, tag, [b.byte]⟩
    let left : Holds := { x.sweep.holds with host := false, event := false }
    let idle : Sweep := { x.sweep with holds := ⟨false, false, false, false, false⟩ }
    let on (sw : Sweep) : Bay := { x with sweep := sw }
    let runs (y : Bay) (k : VisitKind) : Bay := { y with
      sweep := { y.sweep with work := some ⟨.visit k, .seek, none, none, none, none, none, [], none⟩ }
      ctrl := { x.ctrl with state := .sweep, targetFinal := some (z.track * 4096), settle := 0,
                            watch := some 0 } }
    let gives (y : Bay) (frames : List EventFrame) (state : Byte) : Prop :=
      exec (.sweepResume tag [b.byte]) s = .next (s.grants g b y frames [] .ok [0, state])
    s.takes g → x.sweep.active = true → x.ctrl.state = .held → left.isEmpty = true → x.meas.log ≠ [] →
    x.meas.dueCount = false → x.meas.dueTime = false → x.meas.dueTemp = false →
    x.meas.offsetCount < x.profile.revisitCount → x.meas.elapsed < x.profile.revisitMs →
    (∀ t r, x.thermal.temp = some t → x.thermal.lastRef = some r →
      (t - r).natAbs < x.profile.revisitDelta) →
    zoneGet x.zones x.profile.refZone = some z → z.track ≤ 524287 →
    (∀ id r rest i, x.sweep.probe = some (id, r :: rest) → r.kind = .ref →
      x.sweep.plan = some (.base i) →
      let probed : Sweep := { idle with probe := none, plan := some (.probe id rest) }
      (i < x.store.length → x.sweep.stack.length < 4 →
        gives (runs (on { probed with stack := .base i :: x.sweep.stack }) .planned) [] 4) ∧
      (∀ upper oldest, i < x.store.length → x.sweep.stack = upper ++ [oldest] → upper.length = 3 →
        gives (runs ((on { probed with
            stack := .base i :: upper, lost := if x.sweep.lost < 65535 then x.sweep.lost + 1
              else x.sweep.lost
            basePlan := match oldest with
              | .base _ => .lost
              | .probe _ _ => x.sweep.basePlan }).raising .resumeLost) .planned)
          (x.unit.offers b (.resumeLost oldest)) 4) ∧
      (x.store.length ≤ i →
        gives (runs (on { probed with basePlan := .finished }) .planned) [] 4)) ∧
    (x.sweep.probe = none →
      (∀ id r rest, x.sweep.plan = some (.probe id (r :: rest)) → r.kind = .ref →
        gives (runs (on { idle with plan := some (.probe id rest) }) .planned) [] 4) ∧
      (∀ id i r more, x.sweep.plan = some (.probe id []) → x.sweep.stack = .base i :: more →
        x.store[i]? = some r → r.kind = .ref →
        gives (runs (on { idle with plan := some (.base (i + 1)), stack := more }) .planned) [] 4) ∧
      (∀ id r r2 rest, x.sweep.plan = some (.probe id (r :: r2 :: rest)) → r.kind ≠ .ref →
        (mapGet x.map r.head r.zone).accepted = true → r2.kind = .ref → x.sweep.seqNext < 65536 →
        x.sweep.skipped < 65535 →
        gives (runs (on { idle with
          plan := some (.probe id rest), skipped := x.sweep.skipped + 1, lastStep := some .skipped })
          .planned) [] 4) ∧
      (∀ i, x.sweep.plan = some (.base i) → x.store.length ≤ i → x.sweep.stack = [] →
        (anyProvisional x.map = true →
          gives (runs (on { idle with plan := none, basePlan := .finished }) .closing) [] 4) ∧
        (anyProvisional x.map = false → x.ctrl.loopHead = x.profile.refHead →
          x.ctrl.selHead = x.profile.refHead →
          gives { x with
            ctrl := { x.ctrl with state := .follow, frozen := false, watch := none }
            meas := { x.meas with window := none }
            pattern := { x.pattern with write := none, capture := none }
            sweep := { idle with
              active := false, work := none, phaseLimit := 0, plan := none, basePlan := .finished,
              lastOutcome := some .complete }
            unit := x.unit.setFlag .sweepDone }
            (x.unit.offers b (.sweepDone x.sweep.number .complete x.sweep.measured x.sweep.skipped
              x.sweep.lost (suspectCount x.map x.sweep.number))) 3)))

/-- The boundary of a HELD bay that SWEEP_RESUME sets free, its log not empty. With a revisit trigger due, by
its flag or by its condition, the flags of the conditions that hold are set and the inline visit begins,
whatever the plan (R101, R138). With none due, no probe pending and a step in front that passes the checks
of R142: an OFFSET step begins with SEEK on its zone's track; a JOG step of another head makes that head the
loop head, with a HEAD record and a switch wait; a JOG step of the loop head begins SEEK at once when the
loop is seeded and waits for the seeding sample when not (R55, R56, R90, R116, R142, R146; the reply's set
and state are log entry 17). -/
def Obligations.BoundaryBeginsWork : Prop :=
  ∀ (s : State) (tag : Byte) (b : BayIx) (z : Zone),
    let x := s.bays.get b
    let g : Frame := ⟨0x45, tag, [b.byte]⟩
    let y : Bay := { x with
      ctrl := { x.ctrl with state := .sweep }
      sweep := { x.sweep with holds := ⟨false, false, false, false, false⟩ } }
    let gives (d : Bay) (records : List OutRecord) : Prop :=
      exec (.sweepResume tag [b.byte]) s = .next (s.grants g b d [] records .ok [0, 4])
    s.takes g → zoneGet x.zones x.profile.refZone = some z → z.track ≤ 524287 →
    (x.sweep.active = true → x.ctrl.state = .held → x.meas.log ≠ [] →
      ({ x.sweep.holds with host := false, event := false } : Holds).isEmpty = true → x.isDue = true →
      gives (y.flagged.visits .onTrigger z.track) []) ∧
    (∀ (id : Nat) (r : StepRec) (rest : List StepRec) (a : Zone), x.canStep z → x.sweep.probe = none →
      x.sweep.plan = some (.probe id (r :: rest)) → (mapGet x.map r.head r.zone).accepted = false →
      zoneGet x.zones r.zone = some a → a.track ≤ 524287 → r.head < x.profile.headCount →
      let sw : Sweep := { y.sweep with plan := some (.probe id rest) }
      let jog (p : Phase) : Work := ⟨.jog r.head r.zone, p, none, none, none, none, none, [], none⟩
      let jogs : Bay := { y with sweep := { sw with phaseLimit := 0 } }
      let waits : Bay := { jogs with sweep := { jogs.sweep with work := some (jog .loopSwitchOut) } }
      (r.kind = .offset → r.head ≠ x.profile.refHead → gives ({ y with sweep := sw }.seeks
        ⟨.offset r.head r.zone, .seek, none, none, none, none, none, [], none⟩ (a.track * 4096)) []) ∧
      (r.kind = .jog → x.ctrl.selHead = x.ctrl.loopHead →
        (r.head ≠ x.ctrl.loopHead → gives (waits.onHead r.head) [.head r.head]) ∧
        (r.head = x.ctrl.loopHead → x.ctrl.targetNow = none → gives waits []) ∧
        (r.head = x.ctrl.loopHead → x.ctrl.targetNow ≠ none →
          gives (jogs.seeks (jog .seek) (a.track * 4096)) [])))

/-- The evaluation of a scan: with every result MISSING it is FAILED with NO_READBACK, with no passing
position FAILED with NO_PASS. Else one run is chosen, the longest, then the one whose midpoint is nearest
0, then the lower; its midpoint rounded away from 0 is the jog and its length the read window, and the part
is SUSPECT with NARROW_WINDOW or EDGE_RUN, or GOOD (R121 to R123). The last READBACK block of the last
position ends the scan: the part is formed and the return LOOP_SWITCH begins (R110, R120, R124). -/
def Obligations.ScanIsEvaluated : Prop :=
  (∀ (p : Profile) (z : Zone) (results : List PosResult) (sweep : Nat) (seq : Option Nat)
      (temp : Option Int),
    let part := evaluateScan p z results sweep seq temp
    let passes (k : Nat) : Prop := ∃ m, results[k]? = some (.count m) ∧ m ≤ p.passLimit
    let run (a b : Nat) : Prop := a ≤ b ∧ (∀ k, a ≤ k → k ≤ b → passes k) ∧
      (a = 0 ∨ ¬ passes (a - 1)) ∧ ¬ passes (b + 1)
    let pos (k : Nat) : Int := (k * z.scanStep : Nat) - (z.scanHalf / z.scanStep * z.scanStep : Nat)
    let best (a b : Nat) : Prop := run a b ∧ ∀ c d, run c d → (c = a ∧ d = b) ∨ d - c < b - a ∨
      (d - c = b - a ∧ ((pos a + pos b).natAbs < (pos c + pos d).natAbs ∨
        ((pos a + pos b).natAbs = (pos c + pos d).natAbs ∧ pos a + pos b < pos c + pos d)))
    (part.profile = some ⟨z.scanStep, pos 0, results⟩ ∧ part.sweep = sweep ∧ part.seq = seq ∧
      part.temp = temp) ∧
    ((∀ r ∈ results, r = .missing) →
      part.status = .failed ∧ part.cause = some .noReadback ∧ part.jog = none) ∧
    ((∃ r ∈ results, r ≠ .missing) → (∀ k, ¬ passes k) →
      part.status = .failed ∧ part.cause = some .noPass ∧ part.jog = none) ∧
    (0 < z.scanStep → (∃ k, passes k) → ∃ a b, best a b) ∧
    (∀ a b, best a b →
      let sum := pos a + pos b
      let window := pos b - pos a + z.scanStep
      part.jog = some (sum.tdiv 2 + sum.tmod 2, window.toNat) ∧
      (window < p.minWindow → part.status = .suspect ∧ part.cause = some .narrowWindow) ∧
      (p.minWindow ≤ window → a = 0 ∨ b + 1 = results.length →
        part.status = .suspect ∧ part.cause = some .edgeRun) ∧
      (p.minWindow ≤ window → a ≠ 0 → b + 1 ≠ results.length →
        part.status = .good ∧ part.cause = none))) ∧
  (∀ (s : State) (b : BayIx) (bits : List Bool) (cap : Capture) (w : Work) (k : Nat),
    let x := s.bays.get b
    let fed := feedBits bits (s.ctx b)
    let z := jobZone w.job (s.ctx b)
    let results := w.results ++ [if fed.bay.pattern.checker = .locked then
      PosResult.count fed.bay.pattern.posMismatches else .noLock]
    1 ≤ bits.length → bits.length ≤ 256 → x.ctrl.state ≠ .offline → x.pattern.capture = some cap →
    x.sweep.work = some w → w.phase = .read k → cap.expected = cap.received + 1 →
    z.positions ≤ k + 1 → x.profile.refHead ≠ x.ctrl.loopHead → x.ctrl.selHead = x.ctrl.loopHead →
    exec (.readback b bits) s = .next (s.leaves b
      { fed.bay with
        acq := { x.acq with run := 0, loss := 0 }
        counter := { x.counter with qp := none, resolved := false }
        ctrl := { x.ctrl with
          targetFinal := some (clampTarget z.centre), targetNow := none, prevErr := none, settle := 0,
          loopHead := x.profile.refHead, selHead := x.profile.refHead,
          switchWait := x.profile.headSwitchWedges }
        pattern := { fed.bay.pattern with write := none, capture := none }
        sweep := { fed.bay.sweep with
          phaseLimit := 0,
          work := some { w with
            phase := .loopSwitchBack, results := results,
            formed := some (evaluateScan x.profile z results x.sweep.number w.seq w.temp) } } }
      fed.frames [.head x.profile.refHead]))

/-! ### Requests to the bay controller and the profile -/

/-- BAY_POWER on powers an OFFLINE bay: POWER on, HEAD of the selected head, IDLE, the park output when
rest_output is PARK with DRIVE if that is not 0, and every other block at its power-on value. A bay that
is powered answers OK with its state and changes nothing (R45). BAY_POWER off of a powered bay with no
sweep: DRIVE 0 if the command is not 0, POWER off, OFFLINE, the selected head at the loop head without a
HEAD record, the wedge queue empty. An active sweep ends with POWERED_OFF. An OFFLINE bay answers OK and
changes nothing (R46). The pattern block takes the values of R106; that both keep the bits of the checker
register, of which R106 says nothing, is the model's choice, log entry 2. -/
def Obligations.BayPowerSwitches : Prop :=
  (∀ (s : State) (tag : Byte) (b : BayIx),
    let x := s.bays.get b
    let f : Frame := ⟨0x10, tag, [b.byte, 1]⟩
    let out := if x.profile.restOutput = .park then parkOutput x.profile else 0
    s.takes f →
    (x.ctrl.state = .offline → exec (.bayPowerOn tag [b.byte, 1]) s = .next (s.grants f b
      { x with
        counter := ⟨0, none, false, none, none⟩, intake := ⟨[], false⟩, acq := ⟨.follow, 0, 0, 0⟩
        ctrl := ⟨.idle, x.ctrl.loopHead, x.ctrl.selHead, 0, none, none, none, out, 0, false, none⟩
        meas := { x.meas with window := none }
        pattern := { x.pattern with
          write := none, capture := none, loopBuffer := [], checker := .hunt, sinceRestart := 0,
          run := 0, winCompared := 0, winMismatches := 0, posCompared := 0, posMismatches := 0 }
        thermal := ⟨none, 0, true, false, false, false, false, x.thermal.lastRef⟩ }
      [] ([.power true, .head x.ctrl.selHead] ++ driveIfChanged 0 out) .ok [1])) ∧
    (x.ctrl.state ≠ .offline → exec (.bayPowerOn tag [b.byte, 1]) s =
      .next (s.answers f .ok [BitVec.ofNat 8 x.ctrl.state.code]))) ∧
  (∀ (s : State) (tag : Byte) (b : BayIx),
    let x := s.bays.get b
    let f : Frame := ⟨0x10, tag, [b.byte, 0]⟩
    s.takes f →
    (x.ctrl.state ≠ .offline → x.sweep.active = false →
      exec (.bayPowerOff tag [b.byte, 0]) s = .next (s.grants f b
        { x with
          counter := ⟨0, none, false, none, none⟩, intake := ⟨[], false⟩, acq := ⟨.follow, 0, 0, 0⟩
          ctrl := ⟨.offline, x.ctrl.loopHead, x.ctrl.loopHead, 0, none, none, none, 0, 0, false, none⟩
          meas := { x.meas with window := none }
          pattern := { x.pattern with
            write := none, capture := none, loopBuffer := [], checker := .hunt, sinceRestart := 0,
            run := 0, winCompared := 0, winMismatches := 0, posCompared := 0, posMismatches := 0 }
          thermal := ⟨none, 0, false, false, false, false, false, x.thermal.lastRef⟩ }
        [] (driveIfChanged x.ctrl.command 0 ++ [.power false]) .ok [0])) ∧
    (x.ctrl.state ≠ .offline → x.sweep.active = true →
      ∃ t, exec (.bayPowerOff tag [b.byte, 0]) s = .next t ∧
        (t.bays.get b).ctrl.state = .offline ∧ (t.bays.get b).ctrl.command = 0 ∧
        (t.bays.get b).sweep.active = false ∧ (t.bays.get b).sweep.lastOutcome = some .poweredOff ∧
        (∀ a, a ≠ b → t.bays.get a = s.bays.get a)) ∧
    (x.ctrl.state = .offline → exec (.bayPowerOff tag [b.byte, 0]) s = .next (s.answers f .ok [0])))

/-- MOVE with arguments that pass: in IDLE the bay goes to ACQUIRE for the target with the head selected; in
ACQUIRE with intent FOLLOW and in FOLLOW a MOVE of the head that is selected changes the target and zeroes
the settle count, and a MOVE of another head also selects it, which sends HEAD, starts the switch wait,
unresolves the counter, unseeds the loop and zeroes the run and loss counts, the state and the elapsed time
standing; elsewhere it is BUSY. Arguments that do not pass are BAD_ARG in every state (R33, R47, R48, R55,
R56; the state byte after BAD_ARG is log entry 18). -/
def Obligations.MoveNamesTarget : Prop :=
  ∀ (s : State) (tag : Byte) (b : BayIx) (head track : Nat) (offset : Int),
    let x := s.bays.get b
    let f : Frame := ⟨0x11, tag, moveBody b head track offset⟩
    let target := (track : Int) * 4096 + offset
    let fits := head < x.profile.headCount ∧ track ≤ 524287 ∧ -2048 ≤ target ∧ target ≤ 2147481600
    let moved := head ≠ x.ctrl.selHead
    head ≤ 255 → track < 4294967296 → -32767 ≤ offset → offset ≤ 32767 → s.takes f →
    (fits → x.ctrl.state = .idle → exec (.move tag f.body) s = .next (s.grants f b
      { x with
        acq := ⟨.follow, 0, 0, 0⟩
        counter := { x.counter with qp := none, resolved := false }
        ctrl := { x.ctrl with
          state := .acquire, loopHead := head, selHead := head,
          switchWait := if moved then x.profile.headSwitchWedges else x.ctrl.switchWait,
          targetFinal := some target, targetNow := none, prevErr := none, settle := 0,
          frozen := false, watch := none } }
      [] (headIfChanged x.ctrl.selHead head) .ok [2])) ∧
    (fits → x.ctrl.state = .acquire → x.acq.intent = .follow → head = x.ctrl.selHead →
      exec (.move tag f.body) s = .next (s.grants f b
        { x with ctrl := { x.ctrl with targetFinal := some target, settle := 0 } } [] [] .ok [2])) ∧
    (fits → x.ctrl.state = .follow → head = x.ctrl.selHead → head = x.ctrl.loopHead →
      exec (.move tag f.body) s = .next (s.grants f b
        { x with ctrl := { x.ctrl with targetFinal := some target, settle := 0 } } [] [] .ok [3])) ∧
    (∀ (st : BayState) (code : Byte), fits → x.ctrl.state = st →
      (st = .follow ∧ code = 3) ∨ (st = .acquire ∧ x.acq.intent = .follow ∧ code = 2) →
      moved → x.ctrl.selHead = x.ctrl.loopHead →
      exec (.move tag f.body) s = .next (s.grants f b
        { x with
          acq := { x.acq with run := 0, loss := 0 }
          counter := { x.counter with qp := none, resolved := false }
          ctrl := { x.ctrl with
            loopHead := head, selHead := head, switchWait := x.profile.headSwitchWedges,
            targetFinal := some target, targetNow := none, prevErr := none, settle := 0 } }
        [] [.head head] .ok [code])) ∧
    (fits → x.ctrl.state ∈ [.sweep, .held, .fault, .offline] ∨
        (x.ctrl.state = .acquire ∧ x.acq.intent = .sweep) →
      exec (.move tag f.body) s =
        .next (s.answers f .busy [BitVec.ofNat 8 x.ctrl.state.code])) ∧
    (¬ fits → exec (.move tag f.body) s =
      .next (s.answers f .badArg [BitVec.ofNat 8 x.ctrl.state.code]))

/-- STOP in FOLLOW and in ACQUIRE with intent FOLLOW, and CLEAR in FAULT without a cutoff condition, take the
bay to IDLE with the rest output; STOP in IDLE and CLEAR outside FAULT answer OK with no change; the rest is
BUSY (R49, R50, R64). -/
def Obligations.StopAndClear : Prop :=
  ∀ (s : State) (tag : Byte) (b : BayIx),
    let x := s.bays.get b
    let stop : Frame := ⟨0x12, tag, [b.byte]⟩
    let clear : Frame := ⟨0x13, tag, [b.byte]⟩
    let state := [BitVec.ofNat 8 x.ctrl.state.code]
    let cutoff := x.thermal.cutoff = true ∨
      (x.thermal.line = true ∧ x.profile.faultLineAction = .cutoff)
    let out := match x.profile.restOutput with
      | .holdLast => max (-(x.profile.currentLimit : Int)) (min x.profile.currentLimit x.ctrl.command)
      | .zero => 0
      | .park => max (-(x.profile.currentLimit : Int)) (min x.profile.currentLimit x.profile.parkCurrent)
    let idle : Bay := { x with
      acq := { x.acq with run := 0 }
      ctrl := { x.ctrl with state := .idle, targetFinal := none, targetNow := none, prevErr := none,
                            settle := 0, command := out } }
    (s.takes stop →
      (x.ctrl.state = .follow ∨ (x.ctrl.state = .acquire ∧ x.acq.intent = .follow) →
        exec (.stop tag [b.byte]) s =
          .next (s.grants stop b idle [] (driveIfChanged x.ctrl.command out) .ok [1])) ∧
      (x.ctrl.state = .idle → exec (.stop tag [b.byte]) s = .next (s.answers stop .ok [1])) ∧
      (x.ctrl.state ∈ [.sweep, .held, .fault, .offline] ∨
          (x.ctrl.state = .acquire ∧ x.acq.intent = .sweep) →
        exec (.stop tag [b.byte]) s = .next (s.answers stop .busy state))) ∧
    (s.takes clear →
      (x.ctrl.state = .fault → ¬ cutoff → exec (.clear tag [b.byte]) s =
        .next (s.grants clear b idle [] (driveIfChanged x.ctrl.command out) .ok [1])) ∧
      (x.ctrl.state = .fault → cutoff → exec (.clear tag [b.byte]) s =
        .next (s.answers clear .busy [6])) ∧
      (x.ctrl.state ≠ .fault → exec (.clear tag [b.byte]) s = .next (s.answers clear .ok state)))

/-- BAY_PROFILE is refused as a whole: BAD_ARG for an id above 36 or a value outside an enumeration's set,
then BUSY outside OFFLINE, IDLE and FAULT, then BUSY for queue_depth outside OFFLINE; an empty list is
taken in every state with OK and changes nothing (R182; queue_depth as 32 or 64 is log entry 32). A refusal
changes nothing and has an empty body. -/
def Obligations.BayProfileChecks : Prop :=
  ∀ (s : State) (tag : Byte) (b : BayIx) (pairs : List (Nat × Int)),
    let x := s.bays.get b
    let f : Frame := ⟨0x03, tag, profileBody b pairs⟩
    let bad := ∃ q ∈ pairs, 36 < q.1 ∨ ∃ vs, enumValues q.1 = some vs ∧ q.2 ∉ vs
    pairs.length ≤ 203 → (∀ q ∈ pairs, q.1 ≤ 255 ∧ -2147483648 ≤ q.2 ∧ q.2 < 2147483648) →
    s.takes f →
    (bad → exec (.bayProfile tag f.body) s = .next (s.answers f .badArg [])) ∧
    (pairs = [] → ∃ reply, exec (.bayProfile tag f.body) s = .next (s.answers f .ok reply)) ∧
    (¬ bad → pairs ≠ [] → x.ctrl.state ∉ [.offline, .idle, .fault] →
      exec (.bayProfile tag f.body) s = .next (s.answers f .busy [])) ∧
    (¬ bad → x.ctrl.state ∈ [.idle, .fault] → (∃ q ∈ pairs, q.1 = 4) →
      exec (.bayProfile tag f.body) s = .next (s.answers f .busy []))

/-- A BAY_PROFILE with a non-empty list that passes its checks applies the pairs, the last of an id
standing: a numeric value is stored at the nearer end of its range and an enumerated one as it is, then
cutoff_temp is brought within hold_temp + 4..600; ids not named stand. The reply lists the ids clamped in
the order they were first clamped and reads the profile back, ADJUSTED when an id is listed and else OK
(R162, R183; an id listed once, and cutoff_temp tested after all pairs, is log entry 13; the count bytes are
the model's choice, log entry 12; queue_depth as 32 or 64 is the model's reading, log entry 32). An OFFLINE
bay only stores. In IDLE and FAULT the hold and cutoff levels are evaluated again with their events; a
cutoff condition that rises in IDLE takes the bay to FAULT, and otherwise the output of the state is
evaluated again, with DRIVE when the command changes (R65, R162). An empty list reads the profile back in
every bay state. -/
def Obligations.BayProfileStores : Prop :=
  ∀ (s : State) (tag : Byte) (b : BayIx) (pairs : List (Nat × Int)),
    let x := s.bays.get b
    let t := x.thermal
    let f : Frame := ⟨0x03, tag, profileBody b pairs⟩
    let bad := ∃ q ∈ pairs, 36 < q.1 ∨ ∃ vs, enumValues q.1 = some vs ∧ q.2 ∉ vs
    let last (id : Nat) : Option Int := ((pairs.filter fun q => q.1 = id).getLast?).map Prod.snd
    let clamps (q : Nat × Int) : Bool := match numericRange q.1 with
      | some (lo, hi) => decide (q.2 < lo ∨ hi < q.2)
      | none => false
    let listed := (pairs.filter clamps).foldl (fun l q => if q.1 ∈ l then l else l ++ [q.1]) []
    (s.takes ⟨0x03, tag, profileBody b []⟩ → exec (.bayProfile tag (profileBody b [])) s =
      .next (s.answers ⟨0x03, tag, profileBody b []⟩ .ok (profileReply b [] x.profile))) ∧
    (pairs.length ≤ 203 → (∀ q ∈ pairs, q.1 ≤ 255 ∧ -2147483648 ≤ q.2 ∧ q.2 < 2147483648) →
      s.takes f → pairs ≠ [] → ¬ bad → x.profile.holdTemp ≤ 596 → ∃ p : Profile,
      let cut := (last 33).getD x.profile.cutoffTemp
      let ids := if p.cutoffTemp = cut then listed else listed ++ [33]
      let gives (y : Bay) (frames : List EventFrame) (records : List OutRecord) : Prop :=
        exec (.bayProfile tag f.body) s = .next (s.grants f b y frames records
          (if ids = [] then .ok else .adjusted) (profileReply b ids p))
      (∀ id, id < 37 → id ≠ 33 → p.values[id]? = match last id, numericRange id with
        | some v, some (lo, hi) => some (max lo (min hi v))
        | some v, none => some v
        | none, _ => x.profile.values[id]?) ∧
      p.cutoffTemp = max (p.holdTemp + 4) (min 600 cut) ∧
      (x.ctrl.state = .offline → x.ctrl.command = 0 → t.temp = none →
        gives { x with profile := p } [] []) ∧
      (x.ctrl.state = .idle ∨ x.ctrl.state = .fault → last 4 = none → x.sweep.active = false →
        let hold := match t.temp with
          | none => t.hold
          | some v => if t.hold = true then decide (p.holdTemp - p.hyst ≤ v)
            else decide (p.holdTemp ≤ v)
        let cutoff := match t.temp with
          | none => t.cutoff
          | some v => if t.cutoff = true then decide (p.cutoffTemp - p.hyst ≤ v)
            else decide (p.cutoffTemp ≤ v)
        let temp := t.temp.getD 0
        let events : List Details :=
          (if t.hold = false ∧ hold = true then [.tempHold temp p.holdTemp]
            else if t.hold = true ∧ hold = false then [.tempClear temp (p.holdTemp - p.hyst)] else []) ++
          (if t.cutoff = false ∧ cutoff = true then [.tempCutoff temp p.cutoffTemp x.ctrl.state] else [])
        let before := t.cutoff = true ∨ (t.line = true ∧ x.profile.faultLineAction = .cutoff)
        let now := cutoff = true ∨ (t.line = true ∧ p.faultLineAction = .cutoff)
        let y : Bay := { x with
          profile := p, thermal := { t with hold := hold, cutoff := cutoff }
          unit := events.foldl (fun u d => u.setFlag d.kind) x.unit }
        let frames := events.flatMap (x.unit.offers b)
        let park := max (-(p.currentLimit : Int)) (min p.currentLimit p.parkCurrent)
        let out := match p.restOutput with
          | .holdLast => max (-(p.currentLimit : Int)) (min p.currentLimit x.ctrl.command)
          | .zero => 0
          | .park => park
        (x.ctrl.state = .fault → gives { y with ctrl := { x.ctrl with command := park } } frames
          (driveIfChanged x.ctrl.command park)) ∧
        (x.ctrl.state = .idle → before ∨ ¬ now →
          gives { y with ctrl := { x.ctrl with command := out } } frames
            (driveIfChanged x.ctrl.command out)) ∧
        (x.ctrl.state = .idle → ¬ before → now → x.ctrl.selHead = x.ctrl.loopHead →
          gives { y with
            acq := { x.acq with run := 0 }
            ctrl := { x.ctrl with
              state := .fault, targetFinal := none, targetNow := none, prevErr := none, command := park,
              settle := 0, frozen := false, watch := none } } frames
            (driveIfChanged x.ctrl.command park))))

/-! ### Requests on the Head Map, the log and the counters -/

/-- MAP_READ answers the bay, the head, the first zone and as many of the named entries as fit whole in 1015
bytes, in zone order, and changes nothing; arguments out of range are BAD_ARG (R83). MAP_ACCEPT marks every
named entry whose offset part is not PROVISIONAL and leaves every other entry as it is, in any bay state;
the reply counts the named entries that carry the mark and the rest (R84). MAP_CLEAR empties every named
entry (full) or clears its mark and keeps its parts (marks only), every other entry standing, and counts the
entries named; range errors and other options are BAD_ARG, and while the sweep is active it is BUSY (R85). -/
def Obligations.MapIsReadMarkedAndCleared : Prop :=
  (∀ (s : State) (tag : Byte) (b : BayIx) (head z0 z1 : Nat),
    let body := [b.byte, BitVec.ofNat 8 head, BitVec.ofNat 8 z0, BitVec.ofNat 8 z1]
    let f : Frame := ⟨0x20, tag, body⟩
    let entries := (List.range (z1 + 1 - z0)).map fun k =>
      entryBytes (z0 + k) (mapGet (s.bays.get b).map head (z0 + k))
    head ≤ 255 → z0 ≤ 255 → z1 ≤ 255 → s.takes f →
    (15 < head ∨ 23 < z0 ∨ 23 < z1 ∨ z1 < z0 →
      exec (.mapRead tag body) s = .next (s.answers f .badArg [])) ∧
    (head ≤ 15 → z0 ≤ z1 → z1 ≤ 23 → ∃ n, n ≤ entries.length ∧
      exec (.mapRead tag body) s = .next (s.answers f .ok
        ([b.byte, BitVec.ofNat 8 head, BitVec.ofNat 8 z0, BitVec.ofNat 8 n] ++
          (entries.take n).flatten)) ∧
      (entries.take n).flatten.length ≤ 1015 ∧
      (n < entries.length → 1015 < (entries.take (n + 1)).flatten.length))) ∧
  (∀ (s : State) (tag : Byte) (b : BayIx) (r : MapRange),
    let x := s.bays.get b
    let f : Frame := ⟨0x21, tag, rangeBody b r⟩
    let fits := r.head0 ≤ r.head1 ∧ r.head1 ≤ 15 ∧ r.zone0 ≤ r.zone1 ∧ r.zone1 ≤ 23
    r.head0 ≤ 255 → r.head1 ≤ 255 → r.zone0 ≤ 255 → r.zone1 ≤ 255 → s.takes f →
    (¬ fits → exec (.mapAccept tag f.body) s = .next (s.answers f .badArg [])) ∧
    (fits → x.tablesLaw → ∃ (m : Table Entry) (marked : Nat),
      exec (.mapAccept tag f.body) s = .next (s.grants f b { x with map := m } [] [] .ok
        (leBytes 2 marked ++
          leBytes 2 (((r.head1 + 1 - r.head0) * (r.zone1 + 1 - r.zone0) - marked : Nat) : Int))) ∧
      marked = (rangeNamed r).countP (fun hz => (mapGet m hz.1 hz.2).accepted) ∧
      ∀ h z, h < 16 → z < 24 → mapGet m h z =
        let e := mapGet x.map h z
        if (r.head0 ≤ h ∧ h ≤ r.head1 ∧ r.zone0 ≤ z ∧ z ≤ r.zone1) ∧ e.provisional = false then
          { e with accepted := true }
        else e)) ∧
  (∀ (s : State) (tag : Byte) (b : BayIx) (r : MapRange),
    let x := s.bays.get b
    let body (o : Nat) : List Byte := rangeBody b r ++ [BitVec.ofNat 8 o]
    let f (o : Nat) : Frame := ⟨0x22, tag, body o⟩
    let fits := r.head0 ≤ r.head1 ∧ r.head1 ≤ 15 ∧ r.zone0 ≤ r.zone1 ∧ r.zone1 ≤ 23
    r.head0 ≤ 255 → r.head1 ≤ 255 → r.zone0 ≤ 255 → r.zone1 ≤ 255 →
    (∀ o, 2 ≤ o → o ≤ 255 → s.takes (f o) →
      exec (.mapClearFull tag (body o)) s = .next (s.answers (f o) .badArg [])) ∧
    (∀ i o, (i = .mapClearFull tag (body 0) ∧ o = 0) ∨ (i = .mapClearMarksOnly tag (body 1) ∧ o = 1) →
      s.takes (f o) →
      (¬ fits → exec i s = .next (s.answers (f o) .badArg [])) ∧
      (fits → x.sweep.active = true → exec i s = .next (s.answers (f o) .busy [])) ∧
      (fits → x.sweep.active = false → x.tablesLaw → ∃ m : Table Entry,
        exec i s = .next (s.grants (f o) b { x with map := m } [] [] .ok
          (leBytes 2 (((r.head1 + 1 - r.head0) * (r.zone1 + 1 - r.zone0) : Nat) : Int))) ∧
        ∀ h z, h < 16 → z < 24 → mapGet m h z =
          let e := mapGet x.map h z
          if r.head0 ≤ h ∧ h ≤ r.head1 ∧ r.zone0 ≤ z ∧ z ≤ r.zone1 then
            if o = 0 then ⟨false, none, none⟩ else { e with accepted := false }
          else e)))

/-- REF_LOG answers the log and the revisit state, one count byte standing for the Record count and for the
list's count (the model's choice, log entry 12), and changes nothing; a bay above 3 is BAD_BAY and another
length BAD_LENGTH (R105). COUNTERS: SNAPSHOT copies the running counters of all four bays whichever bay is
named, READ answers one bay's holding counters and is BAD_ARG for ALL, RESET zeroes the running counters
of one bay or of all, and any other option is BAD_ARG (R127). -/
def Obligations.RefLogAndCounters : Prop :=
  (∀ (s : State) (tag : Byte),
    (∀ b, let x := s.bays.get b
      s.takes ⟨0x28, tag, [b.byte]⟩ → exec (.refLog tag [b.byte]) s =
        .next (s.answers ⟨0x28, tag, [b.byte]⟩ .ok
          (leBytes 2 x.sweep.number ++ [if x.sweep.active = true then 1 else 0] ++
            leBytes 1 x.meas.log.length ++
            x.meas.log.flatMap (fun r => leBytes 2 r.seq ++ leBytes 2 r.value ++
              leBytes 2 (r.temp.getD (-32768))) ++
            leBytes 1 x.meas.failedVisits ++ leBytes 2 x.meas.offsetCount ++ leBytes 4 x.meas.elapsed ++
            [BitVec.ofNat 8 (x.meas.dueCount.toNat + 2 * x.meas.dueTime.toNat +
              4 * x.meas.dueTemp.toNat)] ++
            leBytes 2 (x.thermal.lastRef.getD (-32768))))) ∧
    (∀ v : Byte, 3 < v.toNat → s.takes ⟨0x28, tag, [v]⟩ →
      exec (.refLog tag [v]) s = .next (s.answers ⟨0x28, tag, [v]⟩ .badBay [])) ∧
    (∀ body, body.length ≠ 1 → s.takes ⟨0x28, tag, body⟩ →
      exec (.refLog tag body) s = .next (s.answers ⟨0x28, tag, body⟩ .badLength []))) ∧
  (∀ (s : State) (tag : Byte),
    let body (v : Byte) (o : Nat) : List Byte := [v, BitVec.ofNat 8 o]
    let f (v : Byte) (o : Nat) : Frame := ⟨0x30, tag, body v o⟩
    let copied (x : Bay) : Bay := { x with pattern := { x.pattern with holding := x.pattern.running } }
    let zeroed (x : Bay) : Bay := { x with pattern := { x.pattern with running := ⟨0, 0, 0⟩ } }
    let all (g : Bay → Bay) : State := { s.takeFrame with
      bays := ⟨g s.bays.b0, g s.bays.b1, g s.bays.b2, g s.bays.b3⟩ }
    (∀ v : Byte, v.toNat ≤ 3 ∨ v = 0xFF → s.takes (f v 0) →
      exec (.countersSnapshot tag (body v 0)) s =
        .next (addAnswer (all copied) ⟨0x30, tag, .ok, [], true⟩)) ∧
    (∀ b : BayIx, s.takes (f b.byte 1) → exec (.countersRead tag (body b.byte 1)) s =
      .next (s.answers (f b.byte 1) .ok (leBytes 4 (s.bays.get b).pattern.holding.checked ++
        leBytes 2 (s.bays.get b).pattern.holding.mismatches ++
        leBytes 1 (s.bays.get b).pattern.holding.syncLosses))) ∧
    (s.takes (f 0xFF 1) → exec (.countersRead tag (body 0xFF 1)) s =
      .next (s.answers (f 0xFF 1) .badArg [])) ∧
    (∀ b : BayIx, s.takes (f b.byte 2) → exec (.countersReset tag (body b.byte 2)) s =
      .next (s.grants (f b.byte 2) b (zeroed (s.bays.get b)) [] [] .ok [])) ∧
    (s.takes (f 0xFF 2) → exec (.countersReset tag (body 0xFF 2)) s =
      .next (addAnswer (all zeroed) ⟨0x30, tag, .ok, [], true⟩)) ∧
    (∀ (v : Byte) (o : Nat), v.toNat ≤ 3 ∨ v = 0xFF → 3 ≤ o → o ≤ 255 → s.takes (f v o) →
      exec (.countersRead tag (body v o)) s = .next (s.answers (f v o) .badArg [])) ∧
    (∀ v : Byte, 3 < v.toNat → v ≠ 0xFF → s.takes (f v 1) →
      exec (.countersRead tag (body v 1)) s = .next (s.answers (f v 1) .badBay [])))

/-- SELF_CHECK arms the flag in every bay state and answers whether it was armed; the next write pass carries
its 65th bit inverted, every other bit as the generator gives it, and disarms the flag, as WRITE records
of 256 bits each with pattern_loop OFF and in the loop buffer with INTERNAL (R107, R108, R115). -/
def Obligations.SelfCheckFlipsOneBit : Prop :=
  (∀ (s : State) (tag : Byte) (b : BayIx),
    let x := s.bays.get b
    let f : Frame := ⟨0x31, tag, [b.byte]⟩
    s.takes f → exec (.selfCheck tag [b.byte]) s = .next (s.grants f b
      { x with pattern := { x.pattern with selfCheck := true } } [] [] .ok
      [if x.pattern.selfCheck = true then 1 else 0])) ∧
  (∀ (c : Ctx) (k : Nat),
    let n := c.bay.profile.writeBlocks
    let sent := (genBits (n * 256) 0x1FFFF#17).1
    let bits := if c.bay.pattern.selfCheck = true then passBits n true else sent
    4 ≤ n → k < n * 256 →
    bits[k]? = (if c.bay.pattern.selfCheck = true ∧ k = 64 then sent[k]?.map (!·) else sent[k]?) ∧
    (startPass c).bay.pattern.selfCheck = false ∧
    (c.bay.profile.patternLoop = .internal →
      (startPass c).bay.pattern.loopBuffer.flatten = bits ∧ (startPass c).records = c.records) ∧
    (c.bay.profile.patternLoop = .off → (startPass c).bay.pattern.write = some 0 ∧
      (startPass c).records = c.records ++ writeRecords n 0 (blocksOf n bits)))

/-! ### Requests on the zone table, the plan store and the sweep -/

/-- ZONE_SET: define stores the track with scan_step clamped to 16..4096 and scan_half to 16384 and to 16
scan steps, OK when nothing was clamped and else ADJUSTED; undefine makes the zone undefined; out of range
is BAD_ARG, and an active sweep makes it BUSY (R131; the zone byte's place is log entry 10, the undefined
zone's reply log entry 12). PLAN_LOAD replaces the plan store or appends to it and answers its count, FULL
when the records do not fit, a replace BUSY while the sweep is active; PROBE makes 1 to 8 steps the pending
probe of an active sweep that has none. A record with a head above 15 or a zone above 23 is BAD_ARG for all
three rows (R133, R144). -/
def Obligations.ZonesAndStepsAreStored : Prop :=
  (∀ (s : State) (tag : Byte) (b : BayIx) (zone track half step : Nat),
    let x := s.bays.get b
    let f : Frame := ⟨0x40, tag, zoneDefineBody b zone track half step⟩
    let g : Frame := ⟨0x40, tag, [b.byte, BitVec.ofNat 8 zone, 1]⟩
    let d := max 16 (min 4096 step)
    let top := min 16384 half
    let h := if 16 < top / d then 16 * d else top
    zone ≤ 255 → track < 4294967296 → half ≤ 65535 → step ≤ 65535 →
    (s.takes f →
      (23 < zone ∨ 524287 < track → exec (.zoneSetDefine tag f.body) s =
        .next (s.answers f .badArg [])) ∧
      (zone ≤ 23 → track ≤ 524287 → x.sweep.active = true → exec (.zoneSetDefine tag f.body) s =
        .next (s.answers f .busy [])) ∧
      (zone ≤ 23 → track ≤ 524287 → x.sweep.active = false → exec (.zoneSetDefine tag f.body) s =
        .next (s.grants f b { x with zones := zonePut x.zones zone (some ⟨track, h, d⟩) } [] []
          (if h = half ∧ d = step then .ok else .adjusted)
          (BitVec.ofNat 8 zone :: 1 :: (leBytes 4 track ++ leBytes 2 h ++ leBytes 2 d ++
            leBytes 1 ((2 * (h / d) + 1 : Nat) : Int)))))) ∧
    (s.takes g →
      (23 < zone → exec (.zoneSetUndefine tag g.body) s = .next (s.answers g .badArg [])) ∧
      (zone ≤ 23 → x.sweep.active = true → exec (.zoneSetUndefine tag g.body) s =
        .next (s.answers g .busy [])) ∧
      (zone ≤ 23 → x.sweep.active = false → exec (.zoneSetUndefine tag g.body) s =
        .next (s.grants g b { x with zones := zonePut x.zones zone none } [] [] .ok
          (BitVec.ofNat 8 zone :: List.replicate 10 0)))) ∧
    (x.tablesLaw → ∀ (r : Option Zone) (a : Nat), zoneGet (zonePut x.zones zone r) a =
      if a = zone then r else zoneGet x.zones a)) ∧
  (∀ (s : State) (tag : Byte) (b : BayIx) (id : Nat) (l : List StepRec),
    let x := s.bays.get b
    let raw : List RawStep := l.map fun r => ⟨r.kind.code, r.head, r.zone⟩
    let f : Frame := ⟨0x41, tag, stepListBody b 0 raw⟩
    let g : Frame := ⟨0x41, tag, stepListBody b 1 raw⟩
    let p : Frame := ⟨0x42, tag, stepListBody b id raw⟩
    let good := ∀ r ∈ l, r.head ≤ 15 ∧ r.zone ≤ 23
    l.length ≤ 255 → (∀ r ∈ l, r.head ≤ 255 ∧ r.zone ≤ 255) → id ≤ 255 →
    (s.takes f →
      (¬ good → exec (.planLoadReplace tag f.body) s = .next (s.answers f .badArg [])) ∧
      (good → x.sweep.active = true → exec (.planLoadReplace tag f.body) s =
        .next (s.answers f .busy [])) ∧
      (good → x.sweep.active = false → 128 < l.length → exec (.planLoadReplace tag f.body) s =
        .next (s.answers f .full [])) ∧
      (good → x.sweep.active = false → l.length ≤ 128 → exec (.planLoadReplace tag f.body) s =
        .next (s.grants f b { x with store := l } [] [] .ok [BitVec.ofNat 8 l.length]))) ∧
    (s.takes g →
      (¬ good → exec (.planLoadAppend tag g.body) s = .next (s.answers g .badArg [])) ∧
      (good → 128 < x.store.length + l.length → exec (.planLoadAppend tag g.body) s =
        .next (s.answers g .full [])) ∧
      (good → x.store.length + l.length ≤ 128 → exec (.planLoadAppend tag g.body) s =
        .next (s.grants g b { x with store := x.store ++ l } [] [] .ok
          [BitVec.ofNat 8 (x.store.length + l.length)]))) ∧
    (s.takes p →
      (¬ good ∨ l = [] ∨ 8 < l.length → exec (.probe tag p.body) s =
        .next (s.answers p .badArg [])) ∧
      (good → l ≠ [] → l.length ≤ 8 → x.sweep.active = false ∨ x.sweep.probe ≠ none →
        exec (.probe tag p.body) s = .next (s.answers p .busy [])) ∧
      (good → l ≠ [] → l.length ≤ 8 → x.sweep.active = true → x.sweep.probe = none →
        exec (.probe tag p.body) s = .next (s.grants p b
          { x with sweep := { x.sweep with probe := some (id, l) } } [] [] .ok []))))

/-- SWEEP_START is BUSY outside IDLE and FOLLOW, and BAD_ARG for an empty plan store, an undefined ref_zone,
equal reference and drift heads, or one at or above head_count. Accepted, a new sweep begins: from IDLE
the bay acquires on the reference head, and from FOLLOW, on it, the opening visit begins or the bay is HELD
by a thermal cause that stands (R51, R135, R136). -/
def Obligations.SweepStartBegins : Prop :=
  ∀ (s : State) (tag : Byte) (b : BayIx) (z : Zone),
    let x := s.bays.get b
    let f : Frame := ⟨0x43, tag, [b.byte]⟩
    let ref := x.profile.refHead
    let fits := x.store ≠ [] ∧ zoneGet x.zones x.profile.refZone ≠ none ∧ ref ≠ x.profile.driftHead ∧
      ref < x.profile.headCount ∧ x.profile.driftHead < x.profile.headCount
    let number := if 65535 ≤ x.sweep.number then 1 else x.sweep.number + 1
    let holds : Holds := ⟨false, x.thermal.hold, x.thermal.stale,
      x.thermal.line && decide (x.profile.faultLineAction = .hold), false⟩
    let centre : Int := z.track * 4096
    let started : Bay := { x with
      sweep := { x.sweep with
        number := number, active := true, seqNext := 0, retry := 0, measured := 0, skipped := 0,
        lost := 0, lastStep := none, plan := some (.base 0), basePlan := .standing, stack := [],
        probe := none, work := none, phaseLimit := 0, holds := holds }
      meas := ⟨none, [], 0, 0, 0, false, false, false⟩
      thermal := { x.thermal with lastRef := none } }
    s.takes f →
    (x.ctrl.state ≠ .idle → x.ctrl.state ≠ .follow → exec (.sweepStart tag [b.byte]) s =
      .next (s.answers f .busy [])) ∧
    (x.ctrl.state = .idle ∨ x.ctrl.state = .follow → ¬ fits → exec (.sweepStart tag [b.byte]) s =
      .next (s.answers f .badArg [])) ∧
    (x.ctrl.state = .idle → fits → zoneGet x.zones x.profile.refZone = some z →
      exec (.sweepStart tag [b.byte]) s = .next (s.grants f b
        { started with
          acq := ⟨.sweep, 0, 0, 0⟩
          counter := { x.counter with qp := none, resolved := false }
          ctrl := { x.ctrl with
            state := .acquire, loopHead := ref, selHead := ref,
            switchWait := if ref ≠ x.ctrl.selHead then x.profile.headSwitchWedges else x.ctrl.switchWait,
            targetFinal := some centre, targetNow := none, prevErr := none, settle := 0,
            frozen := false, watch := none } }
        [] (headIfChanged x.ctrl.selHead ref) .ok (leBytes 2 number ++ [2]))) ∧
    (x.ctrl.state = .follow → fits → zoneGet x.zones x.profile.refZone = some z → ref = x.ctrl.loopHead →
      ref = x.ctrl.selHead → z.track ≤ 524287 →
      (holds.isEmpty = true → exec (.sweepStart tag [b.byte]) s = .next (s.grants f b
        { started with
          sweep := { started.sweep with
            work := some ⟨.visit .opening, .seek, none, none, none, none, none, [], none⟩ }
          ctrl := { x.ctrl with state := .sweep, targetFinal := some centre, settle := 0,
                                watch := some 0 } }
        [] [] .ok (leBytes 2 number ++ [4]))) ∧
      (holds.isEmpty = false → exec (.sweepStart tag [b.byte]) s = .next (s.grants f b
        { started with ctrl := { x.ctrl with state := .held, watch := none } }
        [] [] .ok (leBytes 2 number ++ [5]))))

/-- SWEEP_HOLD adds HOST to an active sweep's hold causes and SWEEP_RESUME takes HOST and EVENT out: with
causes left, or outside HELD, no more happens; a HELD bay whose set is empty enters SWEEP, with the opening
visit when the log is empty. Without an active sweep both are BUSY (R138, R146). The set and the
state in a resuming SWEEP_RESUME's reply, the set after the removal and the state after the request, are
the model's reading, log entry 17. A resume with a log is Obligations.BoundaryTakesSteps. -/
def Obligations.HoldAndResume : Prop :=
  ∀ (s : State) (tag : Byte) (b : BayIx) (z : Zone),
    let x := s.bays.get b
    let f : Frame := ⟨0x44, tag, [b.byte]⟩
    let g : Frame := ⟨0x45, tag, [b.byte]⟩
    let held : Holds := { x.sweep.holds with host := true }
    let left : Holds := { x.sweep.holds with host := false, event := false }
    (s.takes f →
      (x.sweep.active = false → exec (.sweepHold tag [b.byte]) s = .next (s.answers f .busy [])) ∧
      (x.sweep.active = true → exec (.sweepHold tag [b.byte]) s = .next (s.grants f b
        { x with sweep := { x.sweep with holds := held } } [] [] .ok held.bytes))) ∧
    (s.takes g →
      (x.sweep.active = false → exec (.sweepResume tag [b.byte]) s = .next (s.answers g .busy [])) ∧
      (x.sweep.active = true → x.ctrl.state ≠ .held ∨ left.isEmpty = false →
        exec (.sweepResume tag [b.byte]) s = .next (s.grants g b
          { x with sweep := { x.sweep with holds := left } } [] [] .ok
          (left.bytes ++ [BitVec.ofNat 8 x.ctrl.state.code]))) ∧
      (x.sweep.active = true → x.ctrl.state = .held → left.isEmpty = true → x.meas.log = [] →
        zoneGet x.zones x.profile.refZone = some z → z.track ≤ 524287 →
        exec (.sweepResume tag [b.byte]) s = .next (s.grants g b
          { x with
            sweep := { x.sweep with
              holds := left
              work := some ⟨.visit .opening, .seek, none, none, none, none, none, [], none⟩ }
            ctrl := { x.ctrl with state := .sweep, targetFinal := some (z.track * 4096), settle := 0,
                                  watch := some 0 } } [] [] .ok [0, 4])))

/-- SWEEP_ABORT of an active sweep: the sweep ends ABORTED, the work, stack, probe, plan and hold causes are
gone, PROVISIONAL offset parts become SUSPECT, SWEEP_DONE is raised, and the reference head is restored,
with a HEAD record when another head was selected. From ACQUIRE the bay stays there with intent FOLLOW, its
elapsed time kept and its run at 0 if a head was selected. From SWEEP and HELD it is in FOLLOW when the
counter stays resolved, and enters ACQUIRE with intent FOLLOW otherwise, as always when a head was selected.
Without an active sweep it is BUSY (R33, R53, R81, R148, R149). -/
def Obligations.SweepAbortEnds : Prop :=
  ∀ (s : State) (tag : Byte) (b : BayIx),
    let x := s.bays.get b
    let f : Frame := ⟨0x46, tag, [b.byte]⟩
    let ref := x.profile.refHead
    let ended := x.sweepEnded .aborted
    let restored := x.ctrl.restored x.profile
    let unresolved : Counter := { x.counter with qp := none, resolved := false }
    let gives (y : Bay) (state : Byte) : Prop := exec (.sweepAbort tag [b.byte]) s =
      .next (s.grants f b y (x.doneFrames b .aborted) (headIfChanged x.ctrl.selHead ref) .ok [state])
    s.takes f →
    (x.sweep.active = false → exec (.sweepAbort tag [b.byte]) s = .next (s.answers f .busy [])) ∧
    (x.sweep.active = true →
      (x.ctrl.state = .sweep ∨ x.ctrl.state = .held →
        (x.counter.resolved = true → x.ctrl.selHead = ref →
          gives { ended with ctrl := { restored with state := .follow } } 3) ∧
        (x.counter.resolved = false ∨ x.ctrl.selHead ≠ ref →
          gives { ended with
            acq := ⟨.follow, 0, 0, 0⟩, counter := unresolved
            ctrl := { restored with state := .acquire, settle := 0 } } 2)) ∧
      (x.ctrl.state = .acquire →
        (x.ctrl.selHead = ref →
          gives { ended with acq := { x.acq with intent := .follow }, ctrl := restored } 2) ∧
        (x.ctrl.selHead ≠ ref →
          gives { ended with
            acq := { x.acq with intent := .follow, run := 0, loss := 0 }, counter := unresolved
            ctrl := restored } 2))) ∧
    (∀ p : OffsetPart, p.unclosed.status = .suspect ∧ p.unclosed.finding = none ∧
      p.unclosed.raw = p.raw ∧ p.unclosed.correction = p.correction ∧
      p.unclosed.cause = some (p.finding.getD .noClosingRef))

/-! ### Requests to the event unit -/

/-- STATUS answers the bay's state as it stands in its eight groups, every byte written out here from the
fields of the state: Bay (R67), Position (R19), Intake (R41), Sweep (R151, with the phase and its details by
R105 and R128), Pattern (R128), Thermal and Condition levels (R165), and Events (R172). It then clears the
flags that the mask names; a mask with one of bits 18 to 22 is BAD_ARG and clears nothing (R171 to R173; R184
and R185 give the sizes, and the rest of the layout is the model's choice, log entries 11, 12 and 31). -/
def Obligations.StatusReadsThenClears : Prop :=
  ∀ (s : State) (tag : Byte) (b : BayIx) (mask : Nat),
    let x := s.bays.get b
    let f : Frame := ⟨0x50, tag, statusBody b mask⟩
    let one (n : Int) : List Byte := [BitVec.ofInt 8 n]
    let two (n : Int) : List Byte := one n ++ one (n / 256)
    let four (n : Int) : List Byte := two n ++ two (n / 65536)
    let yes (v : Bool) : List Byte := if v = true then [1] else [0]
    let opt (bytes : Int → List Byte) (v : Option Int) : List Byte := match v with
      | some n => 1 :: bytes n
      | none => 0 :: bytes 0
    let absent (n : Int) (v : Option Int) : List Byte := two (v.getD n)
    let bay := one ([BayState.offline, .idle, .acquire, .follow, .sweep, .held, .fault].idxOf x.ctrl.state) ++
      one (if x.ctrl.state = .acquire ∧ x.acq.intent = .sweep then 1 else 0) ++
      one x.ctrl.loopHead ++ one x.ctrl.selHead ++ one x.ctrl.switchWait ++
      opt four x.ctrl.targetFinal ++ opt four x.ctrl.targetNow ++ opt two x.ctrl.prevErr ++
      two x.ctrl.command ++ one x.ctrl.settle ++ yes (decide (x.profile.settleCount ≤ x.ctrl.settle)) ++
      yes x.ctrl.frozen ++ opt two (x.ctrl.watch.map fun n => (n : Int))
    let slip (v : Option SlipCapture) : List Byte := match v with
      | some a => 1 :: (four a.slip ++ two a.seq)
      | none => [0, 0, 0, 0, 0, 0, 0]
    let position := four x.counter.cq ++
      opt one (x.counter.qp.map fun q => (([Quadrant.one, .two, .three, .four].idxOf q : Nat) : Int)) ++
      yes x.counter.resolved ++ slip x.counter.latest ++ slip x.counter.previous
    let intake := one x.intake.queue.length ++ one x.profile.queueDepth ++
      (if x.ctrl.state = .acquire then one x.acq.run ++ two x.acq.elapsed else [0, 0, 0]) ++
      (if x.ctrl.state = .follow ∨ x.ctrl.state = .sweep ∨ x.ctrl.state = .held then
        two x.acq.loss ++ two (if x.profile.lossMode = .normal then 24 else 1536) else [0, 0, 0, 0])
    let origin (a : Plan) : List Byte := match a with
      | .base i => 0 :: one i
      | .probe id _ => 1 :: one id
    let plan := match x.sweep.plan with
      | some (.base i) => 1 :: (origin (.base i) ++ [0])
      | some (.probe id steps) => 1 :: (origin (.probe id steps) ++ one steps.length)
      | none => [0, 0, 0, 0]
    let job := match x.sweep.work with
      | none => [0, 0, 0, 0]
      | some w => match w.job with
        | .offset h z => [1, 0] ++ one h ++ one z
        | .jog h z => [1, 1] ++ one h ++ one z
        | .visit k => 2 :: (one ([VisitKind.opening, .onTrigger, .closing, .planned].idxOf k) ++ [0, 0])
    let place (w : Work) : Option Int := match w.job with
      | .jog _ _ => match w.phase with
        | .loopSwitchOut => some 0
        | .seek => some 1
        | .settle => some 2
        | .writePass => some 3
        | .move _ => some 4
        | .settleAt _ => some 5
        | .read _ => some 6
        | .loopSwitchBack => some 7
        | _ => none
      | _ => match w.phase with
        | .seek => some 0
        | .settle => some 1
        | .refAvg => some 2
        | .switch => some 3
        | .headAvg => some 4
        | .retHead => some 5
        | _ => none
    let scan (w : Work) : Option Int := match w.phase with
      | .move k => some k
      | .settleAt k => some k
      | .read k => some k
      | _ => none
    let limit (w : Work) : Option Int :=
      if w.phase = .retHead ∨ w.phase = .loopSwitchOut ∨ w.phase = .loopSwitchBack then
        some x.sweep.phaseLimit else none
    let window := match x.meas.window with
      | some w => 1 :: (one w.head ++ two w.collected ++ two w.delivered)
      | none => [0, 0, 0, 0, 0, 0]
    let phase := opt one (x.sweep.work.bind place) ++ window ++ opt one (x.sweep.work.bind scan) ++
      one (match x.sweep.work with
        | some w => (w.results.length : Int)
        | none => 0) ++ opt two (x.sweep.work.bind limit)
    let held := match x.sweep.work with
      | some w => (w.seq.getD 0 : Int)
      | none => 0
    let bit (v : Bool) (n : Int) : Int := if v = true then n else 0
    let sweep := yes x.sweep.active ++ two x.sweep.number ++
      opt one (x.sweep.lastOutcome.map fun a => (([SweepOutcome.complete, .aborted, .refFailed, .lostServo,
        .faulted, .poweredOff].idxOf a : Nat) : Int)) ++
      one (bit x.sweep.holds.host 1 + bit x.sweep.holds.thermal 2 + bit x.sweep.holds.stale 4 +
        bit x.sweep.holds.faultLine 8 + bit x.sweep.holds.event 16) ++
      plan ++ one ([BasePlan.standing, .finished, .lost].idxOf x.sweep.basePlan) ++ job ++ phase ++
      two held ++ two (if x.sweep.seqNext = 0 then 0 else (x.sweep.seqNext - 1 : Nat)) ++
      opt one (x.sweep.probe.map fun a => (a.1 : Int)) ++
      one x.sweep.stack.length ++ x.sweep.stack.reverse.flatMap origin ++
      one x.sweep.retry ++ two x.sweep.measured ++ two x.sweep.skipped ++ two x.sweep.lost ++
      opt one (x.sweep.lastStep.map fun a =>
        (([StepOutcome.written, .skipped, .discarded].idxOf a : Nat) : Int))
    let pattern := yes x.pattern.selfCheck ++ opt one (x.pattern.write.map fun n => (n : Int)) ++
      (match x.pattern.capture with
        | some k => 1 :: (one k.expected ++ one k.received ++ one k.revs)
        | none => [0, 0, 0, 0]) ++
      (match x.pattern.checker with
        | .hunt => [0, 0, 0, 0]
        | .check => 1 :: (one x.pattern.run ++ [0, 0])
        | .locked => 2 :: 0 :: (one x.pattern.winCompared ++ one x.pattern.winMismatches)) ++
      two x.pattern.posCompared ++ two x.pattern.posMismatches
    let thermal := absent (-32768) x.thermal.temp ++ two x.thermal.staleTimer ++
      yes x.thermal.staleRunning ++ absent (-32768) x.thermal.lastRef
    let levels := yes x.intake.warn ++ yes x.thermal.stale ++ yes x.thermal.hold ++ yes x.thermal.cutoff ++
      yes x.thermal.line ++
      yes (x.thermal.cutoff || (x.thermal.line && decide (x.profile.faultLineAction = .cutoff)))
    let events := ((List.range 18).flatMap fun k => yes (x.unit.latched.getLsbD k)) ++
      yes s.events.overflow ++ one s.events.frames.length
    let reply := bay ++ position ++ intake ++ sweep ++ pattern ++ thermal ++ levels ++ events
    mask < 16777216 → s.takes f →
    ((∃ k, 18 ≤ k ∧ k ≤ 22 ∧ mask.testBit k = true) → exec (.status tag f.body) s =
      .next (s.answers f .badArg [])) ∧
    ((∀ k, 18 ≤ k → k ≤ 22 → mask.testBit k = false) → exec (.status tag f.body) s =
      .next (addAnswer
        { s.takeFrame with
          bays := s.bays.set b
            { x with unit := { x.unit with latched := x.unit.latched &&& ~~~(BitVec.ofNat 18 mask) } }
          events := { s.events with overflow := s.events.overflow && !mask.testBit 23 } }
        ⟨0x50, tag, .ok, reply, true⟩))

/-- EVENT_ROUTE gives each kind that is not fixed the disposition of its last pair and leaves the rest, the
fixed kinds among them, which makes the reply ADJUSTED when a pair would move one off NOTIFY; the reply
carries the dispositions, as eighteen bytes with no count byte, which is the model's choice (log entry 12).
More than 18 pairs, a kind above 17 or an unknown disposition is BAD_ARG (R168, R169). -/
def Obligations.EventRouteApplies : Prop :=
  ∀ (s : State) (tag : Byte) (b : BayIx) (pairs : List (Nat × Nat)),
    let x := s.bays.get b
    let f : Frame := ⟨0x51, tag, routeBody b pairs⟩
    let good := pairs.length ≤ 18 ∧ ∀ q ∈ pairs, q.1 ≤ 17 ∧ q.2 ≤ 2
    let kept := ∃ q ∈ pairs, (q.1 = 10 ∨ q.1 = 13) ∧ q.2 ≠ 1
    pairs.length ≤ 255 → (∀ q ∈ pairs, q.1 ≤ 255 ∧ q.2 ≤ 255) → s.takes f →
    (¬ good → exec (.eventRoute tag f.body) s = .next (s.answers f .badArg [])) ∧
    (good → x.unit.dispositions.length = 18 → ∃ (ds : List Disposition) (st : Status),
      exec (.eventRoute tag f.body) s = .next (s.grants f b
        { x with unit := { x.unit with dispositions := ds } } [] [] st
        (ds.map fun d => BitVec.ofNat 8 d.code)) ∧
      (kept → st = .adjusted) ∧ (¬ kept → st = .ok) ∧ ds.length = 18 ∧
      ∀ k, k < 18 → ds[k]? =
        match (pairs.filter fun q => q.1 = k).getLast? with
        | some q => if k = 10 ∨ k = 13 then x.unit.dispositions[k]? else Disposition.ofCode q.2
        | none => x.unit.dispositions[k]?)
end

