-- ==== Sys2Proof/Laws/State.lean ====
section
/-! SUPPORT. What each update of a bay at work leaves in each field, and reading one bay of four. -/

namespace Sys2Proof.Machine

/-! ### Readers -/

@[simp] theorem Ctx.profile_eq (c : Ctx) : c.profile = c.bay.profile := rfl
@[simp] theorem Ctx.ctrl_eq (c : Ctx) : c.ctrl = c.bay.ctrl := rfl
@[simp] theorem Ctx.sweep_eq (c : Ctx) : c.sweep = c.bay.sweep := rfl
@[simp] theorem Ctx.meas_eq (c : Ctx) : c.meas = c.bay.meas := rfl
@[simp] theorem Ctx.pattern_eq (c : Ctx) : c.pattern = c.bay.pattern := rfl
@[simp] theorem Ctx.thermal_eq (c : Ctx) : c.thermal = c.bay.thermal := rfl

/-! ### Updates of one block -/

section
variable (c : Ctx) (x : Profile)
@[simp] theorem Ctx.setProfile_id : (c.setProfile x).id = c.id := rfl
@[simp] theorem Ctx.setProfile_frames : (c.setProfile x).frames = c.frames := rfl
@[simp] theorem Ctx.setProfile_records : (c.setProfile x).records = c.records := rfl
@[simp] theorem Ctx.setProfile_notes : (c.setProfile x).notes = c.notes := rfl
@[simp] theorem Ctx.setProfile_bay_profile : (c.setProfile x).bay.profile = x := rfl
@[simp] theorem Ctx.setProfile_bay_counter : (c.setProfile x).bay.counter = c.bay.counter := rfl
@[simp] theorem Ctx.setProfile_bay_intake : (c.setProfile x).bay.intake = c.bay.intake := rfl
@[simp] theorem Ctx.setProfile_bay_acq : (c.setProfile x).bay.acq = c.bay.acq := rfl
@[simp] theorem Ctx.setProfile_bay_ctrl : (c.setProfile x).bay.ctrl = c.bay.ctrl := rfl
@[simp] theorem Ctx.setProfile_bay_map : (c.setProfile x).bay.map = c.bay.map := rfl
@[simp] theorem Ctx.setProfile_bay_zones : (c.setProfile x).bay.zones = c.bay.zones := rfl
@[simp] theorem Ctx.setProfile_bay_store : (c.setProfile x).bay.store = c.bay.store := rfl
@[simp] theorem Ctx.setProfile_bay_meas : (c.setProfile x).bay.meas = c.bay.meas := rfl
@[simp] theorem Ctx.setProfile_bay_pattern : (c.setProfile x).bay.pattern = c.bay.pattern := rfl
@[simp] theorem Ctx.setProfile_bay_sweep : (c.setProfile x).bay.sweep = c.bay.sweep := rfl
@[simp] theorem Ctx.setProfile_bay_thermal : (c.setProfile x).bay.thermal = c.bay.thermal := rfl
@[simp] theorem Ctx.setProfile_bay_unit : (c.setProfile x).bay.unit = c.bay.unit := rfl
end

section
variable (c : Ctx) (x : Counter)
@[simp] theorem Ctx.setCounter_id : (c.setCounter x).id = c.id := rfl
@[simp] theorem Ctx.setCounter_frames : (c.setCounter x).frames = c.frames := rfl
@[simp] theorem Ctx.setCounter_records : (c.setCounter x).records = c.records := rfl
@[simp] theorem Ctx.setCounter_notes : (c.setCounter x).notes = c.notes := rfl
@[simp] theorem Ctx.setCounter_bay_profile : (c.setCounter x).bay.profile = c.bay.profile := rfl
@[simp] theorem Ctx.setCounter_bay_counter : (c.setCounter x).bay.counter = x := rfl
@[simp] theorem Ctx.setCounter_bay_intake : (c.setCounter x).bay.intake = c.bay.intake := rfl
@[simp] theorem Ctx.setCounter_bay_acq : (c.setCounter x).bay.acq = c.bay.acq := rfl
@[simp] theorem Ctx.setCounter_bay_ctrl : (c.setCounter x).bay.ctrl = c.bay.ctrl := rfl
@[simp] theorem Ctx.setCounter_bay_map : (c.setCounter x).bay.map = c.bay.map := rfl
@[simp] theorem Ctx.setCounter_bay_zones : (c.setCounter x).bay.zones = c.bay.zones := rfl
@[simp] theorem Ctx.setCounter_bay_store : (c.setCounter x).bay.store = c.bay.store := rfl
@[simp] theorem Ctx.setCounter_bay_meas : (c.setCounter x).bay.meas = c.bay.meas := rfl
@[simp] theorem Ctx.setCounter_bay_pattern : (c.setCounter x).bay.pattern = c.bay.pattern := rfl
@[simp] theorem Ctx.setCounter_bay_sweep : (c.setCounter x).bay.sweep = c.bay.sweep := rfl
@[simp] theorem Ctx.setCounter_bay_thermal : (c.setCounter x).bay.thermal = c.bay.thermal := rfl
@[simp] theorem Ctx.setCounter_bay_unit : (c.setCounter x).bay.unit = c.bay.unit := rfl
end

section
variable (c : Ctx) (x : Intake)
@[simp] theorem Ctx.setIntake_id : (c.setIntake x).id = c.id := rfl
@[simp] theorem Ctx.setIntake_frames : (c.setIntake x).frames = c.frames := rfl
@[simp] theorem Ctx.setIntake_records : (c.setIntake x).records = c.records := rfl
@[simp] theorem Ctx.setIntake_notes : (c.setIntake x).notes = c.notes := rfl
@[simp] theorem Ctx.setIntake_bay_profile : (c.setIntake x).bay.profile = c.bay.profile := rfl
@[simp] theorem Ctx.setIntake_bay_counter : (c.setIntake x).bay.counter = c.bay.counter := rfl
@[simp] theorem Ctx.setIntake_bay_intake : (c.setIntake x).bay.intake = x := rfl
@[simp] theorem Ctx.setIntake_bay_acq : (c.setIntake x).bay.acq = c.bay.acq := rfl
@[simp] theorem Ctx.setIntake_bay_ctrl : (c.setIntake x).bay.ctrl = c.bay.ctrl := rfl
@[simp] theorem Ctx.setIntake_bay_map : (c.setIntake x).bay.map = c.bay.map := rfl
@[simp] theorem Ctx.setIntake_bay_zones : (c.setIntake x).bay.zones = c.bay.zones := rfl
@[simp] theorem Ctx.setIntake_bay_store : (c.setIntake x).bay.store = c.bay.store := rfl
@[simp] theorem Ctx.setIntake_bay_meas : (c.setIntake x).bay.meas = c.bay.meas := rfl
@[simp] theorem Ctx.setIntake_bay_pattern : (c.setIntake x).bay.pattern = c.bay.pattern := rfl
@[simp] theorem Ctx.setIntake_bay_sweep : (c.setIntake x).bay.sweep = c.bay.sweep := rfl
@[simp] theorem Ctx.setIntake_bay_thermal : (c.setIntake x).bay.thermal = c.bay.thermal := rfl
@[simp] theorem Ctx.setIntake_bay_unit : (c.setIntake x).bay.unit = c.bay.unit := rfl
end

section
variable (c : Ctx) (x : Acq)
@[simp] theorem Ctx.setAcq_id : (c.setAcq x).id = c.id := rfl
@[simp] theorem Ctx.setAcq_frames : (c.setAcq x).frames = c.frames := rfl
@[simp] theorem Ctx.setAcq_records : (c.setAcq x).records = c.records := rfl
@[simp] theorem Ctx.setAcq_notes : (c.setAcq x).notes = c.notes := rfl
@[simp] theorem Ctx.setAcq_bay_profile : (c.setAcq x).bay.profile = c.bay.profile := rfl
@[simp] theorem Ctx.setAcq_bay_counter : (c.setAcq x).bay.counter = c.bay.counter := rfl
@[simp] theorem Ctx.setAcq_bay_intake : (c.setAcq x).bay.intake = c.bay.intake := rfl
@[simp] theorem Ctx.setAcq_bay_acq : (c.setAcq x).bay.acq = x := rfl
@[simp] theorem Ctx.setAcq_bay_ctrl : (c.setAcq x).bay.ctrl = c.bay.ctrl := rfl
@[simp] theorem Ctx.setAcq_bay_map : (c.setAcq x).bay.map = c.bay.map := rfl
@[simp] theorem Ctx.setAcq_bay_zones : (c.setAcq x).bay.zones = c.bay.zones := rfl
@[simp] theorem Ctx.setAcq_bay_store : (c.setAcq x).bay.store = c.bay.store := rfl
@[simp] theorem Ctx.setAcq_bay_meas : (c.setAcq x).bay.meas = c.bay.meas := rfl
@[simp] theorem Ctx.setAcq_bay_pattern : (c.setAcq x).bay.pattern = c.bay.pattern := rfl
@[simp] theorem Ctx.setAcq_bay_sweep : (c.setAcq x).bay.sweep = c.bay.sweep := rfl
@[simp] theorem Ctx.setAcq_bay_thermal : (c.setAcq x).bay.thermal = c.bay.thermal := rfl
@[simp] theorem Ctx.setAcq_bay_unit : (c.setAcq x).bay.unit = c.bay.unit := rfl
end

section
variable (c : Ctx) (x : Ctrl)
@[simp] theorem Ctx.setCtrl_id : (c.setCtrl x).id = c.id := rfl
@[simp] theorem Ctx.setCtrl_frames : (c.setCtrl x).frames = c.frames := rfl
@[simp] theorem Ctx.setCtrl_records : (c.setCtrl x).records = c.records := rfl
@[simp] theorem Ctx.setCtrl_notes : (c.setCtrl x).notes = c.notes := rfl
@[simp] theorem Ctx.setCtrl_bay_profile : (c.setCtrl x).bay.profile = c.bay.profile := rfl
@[simp] theorem Ctx.setCtrl_bay_counter : (c.setCtrl x).bay.counter = c.bay.counter := rfl
@[simp] theorem Ctx.setCtrl_bay_intake : (c.setCtrl x).bay.intake = c.bay.intake := rfl
@[simp] theorem Ctx.setCtrl_bay_acq : (c.setCtrl x).bay.acq = c.bay.acq := rfl
@[simp] theorem Ctx.setCtrl_bay_ctrl : (c.setCtrl x).bay.ctrl = x := rfl
@[simp] theorem Ctx.setCtrl_bay_map : (c.setCtrl x).bay.map = c.bay.map := rfl
@[simp] theorem Ctx.setCtrl_bay_zones : (c.setCtrl x).bay.zones = c.bay.zones := rfl
@[simp] theorem Ctx.setCtrl_bay_store : (c.setCtrl x).bay.store = c.bay.store := rfl
@[simp] theorem Ctx.setCtrl_bay_meas : (c.setCtrl x).bay.meas = c.bay.meas := rfl
@[simp] theorem Ctx.setCtrl_bay_pattern : (c.setCtrl x).bay.pattern = c.bay.pattern := rfl
@[simp] theorem Ctx.setCtrl_bay_sweep : (c.setCtrl x).bay.sweep = c.bay.sweep := rfl
@[simp] theorem Ctx.setCtrl_bay_thermal : (c.setCtrl x).bay.thermal = c.bay.thermal := rfl
@[simp] theorem Ctx.setCtrl_bay_unit : (c.setCtrl x).bay.unit = c.bay.unit := rfl
end

section
variable (c : Ctx) (x : Table Entry)
@[simp] theorem Ctx.setMap_id : (c.setMap x).id = c.id := rfl
@[simp] theorem Ctx.setMap_frames : (c.setMap x).frames = c.frames := rfl
@[simp] theorem Ctx.setMap_records : (c.setMap x).records = c.records := rfl
@[simp] theorem Ctx.setMap_notes : (c.setMap x).notes = c.notes := rfl
@[simp] theorem Ctx.setMap_bay_profile : (c.setMap x).bay.profile = c.bay.profile := rfl
@[simp] theorem Ctx.setMap_bay_counter : (c.setMap x).bay.counter = c.bay.counter := rfl
@[simp] theorem Ctx.setMap_bay_intake : (c.setMap x).bay.intake = c.bay.intake := rfl
@[simp] theorem Ctx.setMap_bay_acq : (c.setMap x).bay.acq = c.bay.acq := rfl
@[simp] theorem Ctx.setMap_bay_ctrl : (c.setMap x).bay.ctrl = c.bay.ctrl := rfl
@[simp] theorem Ctx.setMap_bay_map : (c.setMap x).bay.map = x := rfl
@[simp] theorem Ctx.setMap_bay_zones : (c.setMap x).bay.zones = c.bay.zones := rfl
@[simp] theorem Ctx.setMap_bay_store : (c.setMap x).bay.store = c.bay.store := rfl
@[simp] theorem Ctx.setMap_bay_meas : (c.setMap x).bay.meas = c.bay.meas := rfl
@[simp] theorem Ctx.setMap_bay_pattern : (c.setMap x).bay.pattern = c.bay.pattern := rfl
@[simp] theorem Ctx.setMap_bay_sweep : (c.setMap x).bay.sweep = c.bay.sweep := rfl
@[simp] theorem Ctx.setMap_bay_thermal : (c.setMap x).bay.thermal = c.bay.thermal := rfl
@[simp] theorem Ctx.setMap_bay_unit : (c.setMap x).bay.unit = c.bay.unit := rfl
end

section
variable (c : Ctx) (x : Table (Option Zone))
@[simp] theorem Ctx.setZones_id : (c.setZones x).id = c.id := rfl
@[simp] theorem Ctx.setZones_frames : (c.setZones x).frames = c.frames := rfl
@[simp] theorem Ctx.setZones_records : (c.setZones x).records = c.records := rfl
@[simp] theorem Ctx.setZones_notes : (c.setZones x).notes = c.notes := rfl
@[simp] theorem Ctx.setZones_bay_profile : (c.setZones x).bay.profile = c.bay.profile := rfl
@[simp] theorem Ctx.setZones_bay_counter : (c.setZones x).bay.counter = c.bay.counter := rfl
@[simp] theorem Ctx.setZones_bay_intake : (c.setZones x).bay.intake = c.bay.intake := rfl
@[simp] theorem Ctx.setZones_bay_acq : (c.setZones x).bay.acq = c.bay.acq := rfl
@[simp] theorem Ctx.setZones_bay_ctrl : (c.setZones x).bay.ctrl = c.bay.ctrl := rfl
@[simp] theorem Ctx.setZones_bay_map : (c.setZones x).bay.map = c.bay.map := rfl
@[simp] theorem Ctx.setZones_bay_zones : (c.setZones x).bay.zones = x := rfl
@[simp] theorem Ctx.setZones_bay_store : (c.setZones x).bay.store = c.bay.store := rfl
@[simp] theorem Ctx.setZones_bay_meas : (c.setZones x).bay.meas = c.bay.meas := rfl
@[simp] theorem Ctx.setZones_bay_pattern : (c.setZones x).bay.pattern = c.bay.pattern := rfl
@[simp] theorem Ctx.setZones_bay_sweep : (c.setZones x).bay.sweep = c.bay.sweep := rfl
@[simp] theorem Ctx.setZones_bay_thermal : (c.setZones x).bay.thermal = c.bay.thermal := rfl
@[simp] theorem Ctx.setZones_bay_unit : (c.setZones x).bay.unit = c.bay.unit := rfl
end

section
variable (c : Ctx) (x : List StepRec)
@[simp] theorem Ctx.setStore_id : (c.setStore x).id = c.id := rfl
@[simp] theorem Ctx.setStore_frames : (c.setStore x).frames = c.frames := rfl
@[simp] theorem Ctx.setStore_records : (c.setStore x).records = c.records := rfl
@[simp] theorem Ctx.setStore_notes : (c.setStore x).notes = c.notes := rfl
@[simp] theorem Ctx.setStore_bay_profile : (c.setStore x).bay.profile = c.bay.profile := rfl
@[simp] theorem Ctx.setStore_bay_counter : (c.setStore x).bay.counter = c.bay.counter := rfl
@[simp] theorem Ctx.setStore_bay_intake : (c.setStore x).bay.intake = c.bay.intake := rfl
@[simp] theorem Ctx.setStore_bay_acq : (c.setStore x).bay.acq = c.bay.acq := rfl
@[simp] theorem Ctx.setStore_bay_ctrl : (c.setStore x).bay.ctrl = c.bay.ctrl := rfl
@[simp] theorem Ctx.setStore_bay_map : (c.setStore x).bay.map = c.bay.map := rfl
@[simp] theorem Ctx.setStore_bay_zones : (c.setStore x).bay.zones = c.bay.zones := rfl
@[simp] theorem Ctx.setStore_bay_store : (c.setStore x).bay.store = x := rfl
@[simp] theorem Ctx.setStore_bay_meas : (c.setStore x).bay.meas = c.bay.meas := rfl
@[simp] theorem Ctx.setStore_bay_pattern : (c.setStore x).bay.pattern = c.bay.pattern := rfl
@[simp] theorem Ctx.setStore_bay_sweep : (c.setStore x).bay.sweep = c.bay.sweep := rfl
@[simp] theorem Ctx.setStore_bay_thermal : (c.setStore x).bay.thermal = c.bay.thermal := rfl
@[simp] theorem Ctx.setStore_bay_unit : (c.setStore x).bay.unit = c.bay.unit := rfl
end

section
variable (c : Ctx) (x : Meas)
@[simp] theorem Ctx.setMeas_id : (c.setMeas x).id = c.id := rfl
@[simp] theorem Ctx.setMeas_frames : (c.setMeas x).frames = c.frames := rfl
@[simp] theorem Ctx.setMeas_records : (c.setMeas x).records = c.records := rfl
@[simp] theorem Ctx.setMeas_notes : (c.setMeas x).notes = c.notes := rfl
@[simp] theorem Ctx.setMeas_bay_profile : (c.setMeas x).bay.profile = c.bay.profile := rfl
@[simp] theorem Ctx.setMeas_bay_counter : (c.setMeas x).bay.counter = c.bay.counter := rfl
@[simp] theorem Ctx.setMeas_bay_intake : (c.setMeas x).bay.intake = c.bay.intake := rfl
@[simp] theorem Ctx.setMeas_bay_acq : (c.setMeas x).bay.acq = c.bay.acq := rfl
@[simp] theorem Ctx.setMeas_bay_ctrl : (c.setMeas x).bay.ctrl = c.bay.ctrl := rfl
@[simp] theorem Ctx.setMeas_bay_map : (c.setMeas x).bay.map = c.bay.map := rfl
@[simp] theorem Ctx.setMeas_bay_zones : (c.setMeas x).bay.zones = c.bay.zones := rfl
@[simp] theorem Ctx.setMeas_bay_store : (c.setMeas x).bay.store = c.bay.store := rfl
@[simp] theorem Ctx.setMeas_bay_meas : (c.setMeas x).bay.meas = x := rfl
@[simp] theorem Ctx.setMeas_bay_pattern : (c.setMeas x).bay.pattern = c.bay.pattern := rfl
@[simp] theorem Ctx.setMeas_bay_sweep : (c.setMeas x).bay.sweep = c.bay.sweep := rfl
@[simp] theorem Ctx.setMeas_bay_thermal : (c.setMeas x).bay.thermal = c.bay.thermal := rfl
@[simp] theorem Ctx.setMeas_bay_unit : (c.setMeas x).bay.unit = c.bay.unit := rfl
end

section
variable (c : Ctx) (x : Pattern)
@[simp] theorem Ctx.setPattern_id : (c.setPattern x).id = c.id := rfl
@[simp] theorem Ctx.setPattern_frames : (c.setPattern x).frames = c.frames := rfl
@[simp] theorem Ctx.setPattern_records : (c.setPattern x).records = c.records := rfl
@[simp] theorem Ctx.setPattern_notes : (c.setPattern x).notes = c.notes := rfl
@[simp] theorem Ctx.setPattern_bay_profile : (c.setPattern x).bay.profile = c.bay.profile := rfl
@[simp] theorem Ctx.setPattern_bay_counter : (c.setPattern x).bay.counter = c.bay.counter := rfl
@[simp] theorem Ctx.setPattern_bay_intake : (c.setPattern x).bay.intake = c.bay.intake := rfl
@[simp] theorem Ctx.setPattern_bay_acq : (c.setPattern x).bay.acq = c.bay.acq := rfl
@[simp] theorem Ctx.setPattern_bay_ctrl : (c.setPattern x).bay.ctrl = c.bay.ctrl := rfl
@[simp] theorem Ctx.setPattern_bay_map : (c.setPattern x).bay.map = c.bay.map := rfl
@[simp] theorem Ctx.setPattern_bay_zones : (c.setPattern x).bay.zones = c.bay.zones := rfl
@[simp] theorem Ctx.setPattern_bay_store : (c.setPattern x).bay.store = c.bay.store := rfl
@[simp] theorem Ctx.setPattern_bay_meas : (c.setPattern x).bay.meas = c.bay.meas := rfl
@[simp] theorem Ctx.setPattern_bay_pattern : (c.setPattern x).bay.pattern = x := rfl
@[simp] theorem Ctx.setPattern_bay_sweep : (c.setPattern x).bay.sweep = c.bay.sweep := rfl
@[simp] theorem Ctx.setPattern_bay_thermal : (c.setPattern x).bay.thermal = c.bay.thermal := rfl
@[simp] theorem Ctx.setPattern_bay_unit : (c.setPattern x).bay.unit = c.bay.unit := rfl
end

section
variable (c : Ctx) (x : Sweep)
@[simp] theorem Ctx.setSweep_id : (c.setSweep x).id = c.id := rfl
@[simp] theorem Ctx.setSweep_frames : (c.setSweep x).frames = c.frames := rfl
@[simp] theorem Ctx.setSweep_records : (c.setSweep x).records = c.records := rfl
@[simp] theorem Ctx.setSweep_notes : (c.setSweep x).notes = c.notes := rfl
@[simp] theorem Ctx.setSweep_bay_profile : (c.setSweep x).bay.profile = c.bay.profile := rfl
@[simp] theorem Ctx.setSweep_bay_counter : (c.setSweep x).bay.counter = c.bay.counter := rfl
@[simp] theorem Ctx.setSweep_bay_intake : (c.setSweep x).bay.intake = c.bay.intake := rfl
@[simp] theorem Ctx.setSweep_bay_acq : (c.setSweep x).bay.acq = c.bay.acq := rfl
@[simp] theorem Ctx.setSweep_bay_ctrl : (c.setSweep x).bay.ctrl = c.bay.ctrl := rfl
@[simp] theorem Ctx.setSweep_bay_map : (c.setSweep x).bay.map = c.bay.map := rfl
@[simp] theorem Ctx.setSweep_bay_zones : (c.setSweep x).bay.zones = c.bay.zones := rfl
@[simp] theorem Ctx.setSweep_bay_store : (c.setSweep x).bay.store = c.bay.store := rfl
@[simp] theorem Ctx.setSweep_bay_meas : (c.setSweep x).bay.meas = c.bay.meas := rfl
@[simp] theorem Ctx.setSweep_bay_pattern : (c.setSweep x).bay.pattern = c.bay.pattern := rfl
@[simp] theorem Ctx.setSweep_bay_sweep : (c.setSweep x).bay.sweep = x := rfl
@[simp] theorem Ctx.setSweep_bay_thermal : (c.setSweep x).bay.thermal = c.bay.thermal := rfl
@[simp] theorem Ctx.setSweep_bay_unit : (c.setSweep x).bay.unit = c.bay.unit := rfl
end

section
variable (c : Ctx) (x : Thermal)
@[simp] theorem Ctx.setThermal_id : (c.setThermal x).id = c.id := rfl
@[simp] theorem Ctx.setThermal_frames : (c.setThermal x).frames = c.frames := rfl
@[simp] theorem Ctx.setThermal_records : (c.setThermal x).records = c.records := rfl
@[simp] theorem Ctx.setThermal_notes : (c.setThermal x).notes = c.notes := rfl
@[simp] theorem Ctx.setThermal_bay_profile : (c.setThermal x).bay.profile = c.bay.profile := rfl
@[simp] theorem Ctx.setThermal_bay_counter : (c.setThermal x).bay.counter = c.bay.counter := rfl
@[simp] theorem Ctx.setThermal_bay_intake : (c.setThermal x).bay.intake = c.bay.intake := rfl
@[simp] theorem Ctx.setThermal_bay_acq : (c.setThermal x).bay.acq = c.bay.acq := rfl
@[simp] theorem Ctx.setThermal_bay_ctrl : (c.setThermal x).bay.ctrl = c.bay.ctrl := rfl
@[simp] theorem Ctx.setThermal_bay_map : (c.setThermal x).bay.map = c.bay.map := rfl
@[simp] theorem Ctx.setThermal_bay_zones : (c.setThermal x).bay.zones = c.bay.zones := rfl
@[simp] theorem Ctx.setThermal_bay_store : (c.setThermal x).bay.store = c.bay.store := rfl
@[simp] theorem Ctx.setThermal_bay_meas : (c.setThermal x).bay.meas = c.bay.meas := rfl
@[simp] theorem Ctx.setThermal_bay_pattern : (c.setThermal x).bay.pattern = c.bay.pattern := rfl
@[simp] theorem Ctx.setThermal_bay_sweep : (c.setThermal x).bay.sweep = c.bay.sweep := rfl
@[simp] theorem Ctx.setThermal_bay_thermal : (c.setThermal x).bay.thermal = x := rfl
@[simp] theorem Ctx.setThermal_bay_unit : (c.setThermal x).bay.unit = c.bay.unit := rfl
end

section
variable (c : Ctx) (x : EventUnit)
@[simp] theorem Ctx.setUnit_id : (c.setUnit x).id = c.id := rfl
@[simp] theorem Ctx.setUnit_frames : (c.setUnit x).frames = c.frames := rfl
@[simp] theorem Ctx.setUnit_records : (c.setUnit x).records = c.records := rfl
@[simp] theorem Ctx.setUnit_notes : (c.setUnit x).notes = c.notes := rfl
@[simp] theorem Ctx.setUnit_bay_profile : (c.setUnit x).bay.profile = c.bay.profile := rfl
@[simp] theorem Ctx.setUnit_bay_counter : (c.setUnit x).bay.counter = c.bay.counter := rfl
@[simp] theorem Ctx.setUnit_bay_intake : (c.setUnit x).bay.intake = c.bay.intake := rfl
@[simp] theorem Ctx.setUnit_bay_acq : (c.setUnit x).bay.acq = c.bay.acq := rfl
@[simp] theorem Ctx.setUnit_bay_ctrl : (c.setUnit x).bay.ctrl = c.bay.ctrl := rfl
@[simp] theorem Ctx.setUnit_bay_map : (c.setUnit x).bay.map = c.bay.map := rfl
@[simp] theorem Ctx.setUnit_bay_zones : (c.setUnit x).bay.zones = c.bay.zones := rfl
@[simp] theorem Ctx.setUnit_bay_store : (c.setUnit x).bay.store = c.bay.store := rfl
@[simp] theorem Ctx.setUnit_bay_meas : (c.setUnit x).bay.meas = c.bay.meas := rfl
@[simp] theorem Ctx.setUnit_bay_pattern : (c.setUnit x).bay.pattern = c.bay.pattern := rfl
@[simp] theorem Ctx.setUnit_bay_sweep : (c.setUnit x).bay.sweep = c.bay.sweep := rfl
@[simp] theorem Ctx.setUnit_bay_thermal : (c.setUnit x).bay.thermal = c.bay.thermal := rfl
@[simp] theorem Ctx.setUnit_bay_unit : (c.setUnit x).bay.unit = x := rfl
end

/-! ### What a bay gives out -/

section
variable (c : Ctx) (r : OutRecord) (d : Details) (n : Note)
@[simp] theorem Ctx.send_bay : (c.send r).bay = c.bay := rfl
@[simp] theorem Ctx.send_id : (c.send r).id = c.id := rfl
@[simp] theorem Ctx.send_frames : (c.send r).frames = c.frames := rfl
@[simp] theorem Ctx.send_notes : (c.send r).notes = c.notes := rfl
@[simp] theorem Ctx.send_records : (c.send r).records = c.records ++ [r] := rfl
@[simp] theorem Ctx.offer_bay : (c.offer d).bay = c.bay := rfl
@[simp] theorem Ctx.offer_id : (c.offer d).id = c.id := rfl
@[simp] theorem Ctx.offer_records : (c.offer d).records = c.records := rfl
@[simp] theorem Ctx.offer_notes : (c.offer d).notes = c.notes := rfl
@[simp] theorem Ctx.offer_frames : (c.offer d).frames = c.frames ++ [⟨c.id, d⟩] := rfl
@[simp] theorem Ctx.note_bay : (c.note n).bay = c.bay := rfl
@[simp] theorem Ctx.note_id : (c.note n).id = c.id := rfl
@[simp] theorem Ctx.note_frames : (c.note n).frames = c.frames := rfl
@[simp] theorem Ctx.note_records : (c.note n).records = c.records := rfl
@[simp] theorem Ctx.note_notes : (c.note n).notes = c.notes ++ [n] := rfl
end

section
variable (b : BayIx) (x : Bay)
@[simp] theorem Ctx.start_id : (Ctx.start b x).id = b := rfl
@[simp] theorem Ctx.start_bay : (Ctx.start b x).bay = x := rfl
@[simp] theorem Ctx.start_frames : (Ctx.start b x).frames = [] := rfl
@[simp] theorem Ctx.start_records : (Ctx.start b x).records = [] := rfl
@[simp] theorem Ctx.start_notes : (Ctx.start b x).notes = [] := rfl
end

/-! ### One value for each bay -/

@[simp] theorem PerBay.get_set_same {α : Type} (p : PerBay α) (b : BayIx) (v : α) :
    (p.set b v).get b = v := by cases b <;> rfl

theorem PerBay.get_set_other {α : Type} (p : PerBay α) {a b : BayIx} (h : a ≠ b) (v : α) :
    (p.set b v).get a = p.get a := by
  cases a <;> cases b <;> first | rfl | exact absurd rfl h

theorem PerBay.get_set {α : Type} (p : PerBay α) (a b : BayIx) (v : α) :
    (p.set b v).get a = if a = b then v else p.get a := by
  cases a <;> cases b <;> rfl

@[simp] theorem PerBay.set_get {α : Type} (p : PerBay α) (b : BayIx) : p.set b (p.get b) = p := by
  cases b <;> rfl

@[simp] theorem PerBay.set_set {α : Type} (p : PerBay α) (b : BayIx) (v w : α) :
    (p.set b v).set b w = p.set b w := by cases b <;> rfl

@[simp] theorem PerBay.get_all {α : Type} (v : α) (b : BayIx) : (PerBay.all v).get b = v := by
  cases b <;> rfl

theorem PerBay.ext_get {α : Type} {p q : PerBay α} (h : ∀ b, p.get b = q.get b) : p = q := by
  cases p; cases q
  simp only [PerBay.mk.injEq]
  exact ⟨h .bay0, h .bay1, h .bay2, h .bay3⟩

end Sys2Proof.Machine
end

