-- ==== Sys2Proof/Laws/Keeps.lean ====
section
/-! SUPPORT. What a bay at work leaves alone: its number, wedge queue, zone table, plan store, profile and
dispositions change only at the command that names them. -/

namespace Sys2Proof.Machine

/-- The parts of a bay that samples, timers and the sweep engine leave alone. -/
structure Kept where
  id : BayIx
  intake : Intake
  zones : Table (Option Zone)
  store : List StepRec
  profile : Profile
  dispositions : List Disposition
deriving DecidableEq, Repr

/-- Those parts of a bay at work. -/
def Ctx.kept (c : Ctx) : Kept :=
  ⟨c.id, c.bay.intake, c.bay.zones, c.bay.store, c.bay.profile, c.bay.unit.dispositions⟩

section
variable (c : Ctx)
@[simp] theorem Ctx.setCounter_kept (x) : (c.setCounter x).kept = c.kept := rfl
@[simp] theorem Ctx.setAcq_kept (x) : (c.setAcq x).kept = c.kept := rfl
@[simp] theorem Ctx.setCtrl_kept (x) : (c.setCtrl x).kept = c.kept := rfl
@[simp] theorem Ctx.setMap_kept (x) : (c.setMap x).kept = c.kept := rfl
@[simp] theorem Ctx.setMeas_kept (x) : (c.setMeas x).kept = c.kept := rfl
@[simp] theorem Ctx.setPattern_kept (x) : (c.setPattern x).kept = c.kept := rfl
@[simp] theorem Ctx.setSweep_kept (x) : (c.setSweep x).kept = c.kept := rfl
@[simp] theorem Ctx.setThermal_kept (x) : (c.setThermal x).kept = c.kept := rfl
@[simp] theorem Ctx.send_kept (x) : (c.send x).kept = c.kept := rfl
@[simp] theorem Ctx.offer_kept (x) : (c.offer x).kept = c.kept := rfl
@[simp] theorem Ctx.note_kept (x) : (c.note x).kept = c.kept := rfl
@[simp] theorem Ctx.setFlag_kept (k) : (c.setUnit (c.bay.unit.setFlag k)).kept = c.kept := rfl
@[simp] theorem Ctx.kept_profile : c.kept.profile = c.bay.profile := rfl

@[simp] theorem addCause_kept (k) : (addCause k c).kept = c.kept := by
  unfold addCause; split <;> simp
@[simp] theorem raise_kept (d) : (raise d c).kept = c.kept := by
  unfold raise; split <;> simp
@[simp] theorem setCommand_kept (v) : (setCommand v c).kept = c.kept := by
  unfold setCommand; split <;> simp
@[simp] theorem headSelect_kept (h) : (headSelect h c).kept = c.kept := by
  unfold headSelect; split <;> simp
@[simp] theorem setLoopHead_kept (h) : (setLoopHead h c).kept = c.kept := by
  unfold setLoopHead; simp only [headSelect_kept]; split <;> simp
@[simp] theorem nameTarget_kept (t) : (nameTarget t c).kept = c.kept := rfl
@[simp] theorem seekTarget_kept (t) : (seekTarget t c).kept = c.kept := rfl
@[simp] theorem freeze_kept : (freeze c).kept = c.kept := rfl
@[simp] theorem unfreeze_kept : (unfreeze c).kept = c.kept := rfl
@[simp] theorem enterAcquire_kept (i) : (enterAcquire i c).kept = c.kept := rfl
@[simp] theorem enterIdle_kept : (enterIdle c).kept = c.kept := by simp [enterIdle]
@[simp] theorem reevaluateOutput_kept : (reevaluateOutput c).kept = c.kept := by
  unfold reevaluateOutput; split <;> simp
@[simp] theorem resync_kept (h t q) : (resync h t q c).kept = c.kept := by
  unfold resync; split <;> simp
@[simp] theorem stepCounter_kept (h q) : (stepCounter h q c).kept = c.kept := by
  unfold stepCounter; simp only; split <;> simp
@[simp] theorem placeWedge_kept (h y) : (placeWedge h y c).1.kept = c.kept := by
  unfold placeWedge; simp only
  split
  · simp
  · split <;> simp
@[simp] theorem classify_kept (w) : (classify w c).1.kept = c.kept := by
  unfold classify
  split
  · rfl
  · split
    · rfl
    · split <;> simp

@[simp] theorem startPass_kept : (startPass c).kept = c.kept := by
  unfold startPass; simp only; split <;> rfl
@[simp] theorem lockedBit_kept (b) : (lockedBit b c).kept = c.kept := by
  unfold lockedBit; simp only; split <;> split <;> simp
@[simp] theorem feedBit_kept (b) : (feedBit c b).kept = c.kept := by
  unfold feedBit; split <;> simp
@[simp] theorem feedBits_kept (bits) : (feedBits bits c).kept = c.kept := by
  unfold feedBits
  induction bits generalizing c with
  | nil => rfl
  | cons b bs ih => simp [ih]
@[simp] theorem openCapture_kept : (openCapture c).kept = c.kept := rfl
@[simp] theorem closeCapture_kept : (closeCapture c).kept = c.kept := rfl
@[simp] theorem endWrite_kept : (endWrite c).kept = c.kept := rfl
@[simp] theorem takeBlock_kept (bits) : (takeBlock c bits).kept = c.kept := by
  unfold takeBlock; simp only; split <;> simp
@[simp] theorem foldBlocks_kept (l : List (List Bool)) : (l.foldl takeBlock c).kept = c.kept := by
  induction l generalizing c with
  | nil => rfl
  | cons b bs ih => simp [ih]
@[simp] theorem takeLoop_kept : (takeLoop c).kept = c.kept := by simp [takeLoop]

@[simp] theorem openWindow_kept (h) : (openWindow h c).kept = c.kept := rfl
@[simp] theorem closeWindow_kept : (closeWindow c).kept = c.kept := rfl
@[simp] theorem correctDrift_kept (a b r) : (correctDrift a b r c).kept = c.kept := by
  unfold correctDrift; simp only; split <;> simp
@[simp] theorem visitSucceeds_kept (r) : (visitSucceeds r c).kept = c.kept := by
  unfold visitSucceeds; simp only; split <;> simp
@[simp] theorem testTriggers_kept : (testTriggers c).kept = c.kept := rfl
@[simp] theorem writeResult_kept (h z r) : (writeResult h z r c).kept = c.kept := by
  unfold writeResult; simp only
  split
  · simp
  · split <;> split <;> simp

@[simp] theorem dropWork_kept : (dropWork c).kept = c.kept := by simp [dropWork]
@[simp] theorem endCore_kept (o) : (endCore o c).kept = c.kept := by
  unfold endCore; simp only [raise_kept, Ctx.setSweep_kept]; split <;> simp
@[simp] theorem restoreRef_kept : (restoreRef c).kept = c.kept := by simp [restoreRef]
@[simp] theorem placeAfterSweep_kept (o) : (placeAfterSweep o c).kept = c.kept := by
  unfold placeAfterSweep; simp only
  split
  · simp
  · simp
  · split
    · simp
    · split <;> simp
@[simp] theorem endSweep_kept (o) : (endSweep o c).kept = c.kept := by simp [endSweep]
@[simp] theorem enterFault_kept (o) : (enterFault o c).kept = c.kept := by
  unfold enterFault
  simp only [setCommand_kept, Ctx.setCtrl_kept, Ctx.setAcq_kept, headSelect_kept]
  split <;> simp
@[simp] theorem setWork_kept (w) : (setWork w c).kept = c.kept := rfl
@[simp] theorem beginSeek_kept (w) : (beginSeek w c).kept = c.kept := by simp [beginSeek]
@[simp] theorem startLimit_kept : (startLimit c).kept = c.kept := rfl
@[simp] theorem beginLoopSwitch_kept (w) : (beginLoopSwitch w c).kept = c.kept := by
  unfold beginLoopSwitch; simp only; split <;> simp
@[simp] theorem beginWork_kept (w) : (beginWork w c).kept = c.kept := by
  unfold beginWork; split <;> simp
@[simp] theorem beginVisit_kept (k) : (beginVisit k c).kept = c.kept := by simp [beginVisit]
@[simp] theorem interruptWork_kept : (interruptWork c).kept = c.kept := by simp [interruptWork]
@[simp] theorem stamp_kept (w) : (stamp w c).2.kept = c.kept := by
  unfold stamp; split <;> rfl
@[simp] theorem pushPlan_kept (p) : (pushPlan p c).kept = c.kept := by
  unfold pushPlan; simp only; split <;> simp
@[simp] theorem takeProbe_kept : (takeProbe c).kept = c.kept := by
  unfold takeProbe
  split
  · rfl
  · simp only [Ctx.setSweep_kept]
    split
    · rfl
    · split <;> simp
@[simp] theorem holdBay_kept : (holdBay c).kept = c.kept := rfl
@[simp] theorem boundaryStep3_kept : (boundaryStep3 c).1.kept = c.kept := by
  unfold boundaryStep3; simp only; split
  · simp
  · split <;> simp
@[simp] theorem boundaryStep23_kept : (boundaryStep23 c).1.kept = c.kept := by
  unfold boundaryStep23; split
  · simp
  · split <;> simp
@[simp] theorem writeStep_kept (h z r) : (writeStep h z r c).kept = c.kept := by simp [writeStep]
@[simp] theorem takeMeasuring_kept (j h z) : (takeMeasuring j h z c).1.kept = c.kept := by
  unfold takeMeasuring; simp only
  repeat' split
  all_goals simp
@[simp] theorem takeStep_kept (r) : (takeStep r c).1.kept = c.kept := by
  unfold takeStep; split <;> simp
@[simp] theorem boundaryStep45_kept (n) : (boundaryStep45 n c).kept = c.kept := by
  induction n generalizing c with
  | zero => rfl
  | succ n ih =>
    unfold boundaryStep45; simp only
    repeat' split
    all_goals simp [ih]
@[simp] theorem boundaryFrom4_kept : (boundaryFrom4 c).kept = c.kept := by simp [boundaryFrom4]
@[simp] theorem boundaryFrom3_kept : (boundaryFrom3 c).kept = c.kept := by
  unfold boundaryFrom3; simp only; split <;> simp
@[simp] theorem boundary_kept : (boundary c).kept = c.kept := by
  unfold boundary; simp only; split <;> simp
@[simp] theorem stepEnds_kept (h z r) : (stepEnds h z r c).kept = c.kept := by simp [stepEnds]
@[simp] theorem afterInline_kept : (afterInline c).kept = c.kept := by
  unfold afterInline; split <;> simp
@[simp] theorem countPlanned_kept (k) : (countPlanned k c).kept = c.kept := by
  unfold countPlanned; split <;> simp
@[simp] theorem afterVisit_kept (k ok) : (afterVisit k ok c).kept = c.kept := by
  unfold afterVisit
  split
  · split <;> simp
  · simp
  · split <;> simp
  · simp
@[simp] theorem visitEnds_kept (k r) : (visitEnds k r c).kept = c.kept := by
  unfold visitEnds; simp only
  split
  · simp
  · split <;> simp
@[simp] theorem measurementFails_kept (w k) : (measurementFails w k c).kept = c.kept := by
  unfold measurementFails; split <;> simp
@[simp] theorem measurementForms_kept (w a b) : (measurementForms w a b c).kept = c.kept := by
  unfold measurementForms
  split
  · split <;> simp
  · simp
  · rfl
@[simp] theorem returnEnds_kept (w) : (returnEnds w c).kept = c.kept := by
  unfold returnEnds; simp only; split <;> simp
@[simp] theorem beginRefAvg_kept (w) : (beginRefAvg w c).kept = c.kept := by simp [beginRefAvg]
@[simp] theorem beginSwitch_kept (w) : (beginSwitch w c).kept = c.kept := by simp [beginSwitch]
@[simp] theorem beginHeadAvg_kept (w) : (beginHeadAvg w c).kept = c.kept := by simp [beginHeadAvg]
@[simp] theorem beginReturn_kept (w) : (beginReturn w c).kept = c.kept := by simp [beginReturn]
@[simp] theorem beginReturnSwitch_kept (w x) : (beginReturnSwitch w x c).kept = c.kept := by
  unfold beginReturnSwitch; simp only
  split
  · split <;> simp
  · simp
@[simp] theorem beginMove_kept (w k) : (beginMove w k c).kept = c.kept := by simp [beginMove]
@[simp] theorem beginWritePass_kept (w) : (beginWritePass w c).kept = c.kept := by
  unfold beginWritePass; simp only; split <;> simp
@[simp] theorem jogFails_kept (w k) : (jogFails w k c).kept = c.kept := by simp [jogFails]
@[simp] theorem readEnds_kept (w k) : (readEnds w k c).kept = c.kept := by
  unfold readEnds; simp only; split <;> simp
@[simp] theorem beginRead_kept (w k) : (beginRead w k c).kept = c.kept := by
  unfold beginRead; simp only; split <;> simp
@[simp] theorem engineResumes_kept : (engineResumes c).kept = c.kept := by
  unfold engineResumes; split <;> simp
@[simp] theorem resumeIfFree_kept : (resumeIfFree c).kept = c.kept := by
  unfold resumeIfFree; split <;> simp
@[simp] theorem removeCause_kept (k) : (removeCause k c).kept = c.kept := by
  unfold removeCause; split <;> simp

@[simp] theorem sweepLoss_kept : (sweepLoss c).kept = c.kept := by
  unfold sweepLoss; simp only
  split
  · split <;> simp
  · rfl
@[simp] theorem servoLoss_kept (k) : (servoLoss k c).kept = c.kept := by simp [servoLoss]
@[simp] theorem countLoss_kept (x) : (countLoss x c).1.kept = c.kept := by
  unfold countLoss; simp only
  repeat' split
  all_goals simp
@[simp] theorem acquisitionCompletes_kept (p) : (acquisitionCompletes p c).kept = c.kept := by
  unfold acquisitionCompletes; simp only; split <;> simp
@[simp] theorem acquireSample_kept (x) : (acquireSample x c).kept = c.kept := by
  unfold acquireSample; simp only
  split
  · split <;> simp
  · simp
@[simp] theorem loopUpdate_kept (p n f) : (loopUpdate p n f c).kept = c.kept := rfl
@[simp] theorem loopReceives_kept (x) : (loopReceives x c).1.kept = c.kept := by
  unfold loopReceives; simp only
  repeat' split
  all_goals simp
@[simp] theorem watchCounts_kept : (watchCounts c).1.kept = c.kept := by
  unfold watchCounts
  repeat' split
  all_goals simp
@[simp] theorem loopStage_kept (x) : (loopStage x c).1.kept = c.kept := by simp [loopStage]
@[simp] theorem settleEnds_kept (w) : (settleEnds w c).kept = c.kept := by
  unfold settleEnds; simp only; split <;> simp
@[simp] theorem settleTimesOut_kept (w) : (settleTimesOut w c).kept = c.kept := by
  unfold settleTimesOut; simp only; split <;> simp
@[simp] theorem windowCompletes_kept (w win) : (windowCompletes w win c).kept = c.kept := by
  unfold windowCompletes; simp only; split <;> simp
@[simp] theorem windowTimesOut_kept (w win) : (windowTimesOut w win c).kept = c.kept := by
  unfold windowTimesOut; simp only; split <;> simp
@[simp] theorem windowAfter_kept (w win) : (windowAfter w win c).kept = c.kept := by
  unfold windowAfter; repeat' split
  all_goals simp
@[simp] theorem windowSample_kept (w x d) : (windowSample w x d c).kept = c.kept := by
  unfold windowSample; split <;> simp
@[simp] theorem limitSample_kept (n x) : (limitSample n x c).kept = c.kept := by
  unfold limitSample; simp only; split <;> simp
@[simp] theorem writeMark_kept (w x) : (writeMark w x c).kept = c.kept := by
  unfold writeMark
  repeat' split
  all_goals simp
@[simp] theorem captureMark_kept (w k x) : (captureMark w k x c).kept = c.kept := by
  unfold captureMark; simp only
  repeat' split
  all_goals simp
@[simp] theorem returnSwitchEnds_kept (w) : (returnSwitchEnds w c).kept = c.kept := by
  unfold returnSwitchEnds; split <;> simp
@[simp] theorem engineSample_kept (x n) : (engineSample x n c).kept = c.kept := by
  unfold engineSample
  repeat' split
  all_goals simp
@[simp] theorem watchDiscarded_kept : (watchDiscarded c).1.kept = c.kept := by
  unfold watchDiscarded
  repeat' split
  all_goals simp
@[simp] theorem engineDiscards_kept (x t) : (engineDiscards x t c).kept = c.kept := by
  unfold engineDiscards
  repeat' split
  all_goals simp
@[simp] theorem discardSample_kept (x) : (discardSample x c).kept = c.kept := by
  unfold discardSample; simp only
  repeat' split
  all_goals simp
@[simp] theorem followSample_kept (x) : (followSample x c).kept = c.kept := by
  unfold followSample; simp only
  repeat' split
  all_goals simp
@[simp] theorem sampleActs_kept (x) : (sampleActs x c).kept = c.kept := by
  unfold sampleActs
  repeat' split
  all_goals simp
@[simp] theorem handleSample_kept (x) : (handleSample x c).kept = c.kept := by simp [handleSample]
@[simp] theorem completeWedge_kept (w) : (completeWedge w c).kept = c.kept := by simp [completeWedge]

@[simp] theorem cutoffRises_kept : (cutoffRises c).kept = c.kept := by
  unfold cutoffRises; split <;> simp
@[simp] theorem evalHold_kept : (evalHold c).kept = c.kept := by
  unfold evalHold; simp only
  repeat' split
  all_goals simp
@[simp] theorem evalCutoff_kept : (evalCutoff c).kept = c.kept := by
  unfold evalCutoff; simp only
  repeat' split
  all_goals simp
@[simp] theorem afterCutoff_kept (b) : (afterCutoff b c).kept = c.kept := by
  unfold afterCutoff; split <;> simp
@[simp] theorem takeTemp_kept (t) : (takeTemp t c).kept = c.kept := by
  unfold takeTemp
  simp only [afterCutoff_kept, evalCutoff_kept, evalHold_kept]
  split <;> simp
@[simp] theorem takeFault_kept (a) : (takeFault a c).kept = c.kept := by
  unfold takeFault; simp only
  repeat' split
  all_goals simp
@[simp] theorem reevaluateThermal_kept (b) : (reevaluateThermal b c).kept = c.kept := by
  simp [reevaluateThermal]
@[simp] theorem tickAcquire_kept : (tickAcquire c).kept = c.kept := by
  unfold tickAcquire; simp only
  repeat' split
  all_goals simp [acquireExpires]
@[simp] theorem tickStale_kept : (tickStale c).kept = c.kept := by
  unfold tickStale
  repeat' split
  all_goals simp [becomeStale]
@[simp] theorem tickRevisit_kept : (tickRevisit c).kept = c.kept := by
  unfold tickRevisit; split <;> simp
@[simp] theorem tickTimer_kept (k) : (tickTimer k c).kept = c.kept := by
  cases k <;> simp [tickTimer]
end

end Sys2Proof.Machine
end

