-- ==== Sys2Proof/Laws/Link.lean ====
section
/-! SUPPORT. What the transmit side and a bay's commit leave alone. -/

namespace Sys2Proof.Machine

@[simp] theorem arbiter_bays (s : State) : (arbiter s).bays = s.bays := by unfold arbiter; split <;> rfl
@[simp] theorem arbiter_demod (s : State) : (arbiter s).demod = s.demod := by unfold arbiter; split <;> rfl
@[simp] theorem arbiter_sentRecords (s : State) : (arbiter s).sentRecords = s.sentRecords := by unfold arbiter; split <;> rfl
@[simp] theorem arbiter_pending (s : State) : (arbiter s).pending = s.pending := by unfold arbiter; split <;> rfl
@[simp] theorem arbiter_receiver (s : State) : (arbiter s).link.receiver = s.link.receiver := by unfold arbiter; split <;> rfl
@[simp] theorem arbiter_rxQueue (s : State) : (arbiter s).link.rxQueue = s.link.rxQueue := by unfold arbiter; split <;> rfl
@[simp] theorem arbiter_resetPending (s : State) : (arbiter s).link.resetPending = s.link.resetPending := by unfold arbiter; split <;> rfl
@[simp] theorem arbiter_fastLine (s : State) : (arbiter s).link.fastLine = s.link.fastLine := by unfold arbiter; split <;> rfl
@[simp] theorem offerEvent_bays (s : State) (e : EventFrame) : (offerEvent s e).bays = s.bays := by unfold offerEvent; split <;> simp
@[simp] theorem offerEvent_demod (s : State) (e : EventFrame) : (offerEvent s e).demod = s.demod := by unfold offerEvent; split <;> simp
@[simp] theorem offerEvent_sentRecords (s : State) (e : EventFrame) : (offerEvent s e).sentRecords = s.sentRecords := by unfold offerEvent; split <;> simp
@[simp] theorem offerEvent_pending (s : State) (e : EventFrame) : (offerEvent s e).pending = s.pending := by unfold offerEvent; split <;> simp
@[simp] theorem offerEvent_receiver (s : State) (e : EventFrame) : (offerEvent s e).link.receiver = s.link.receiver := by unfold offerEvent; split <;> simp
@[simp] theorem offerEvent_rxQueue (s : State) (e : EventFrame) : (offerEvent s e).link.rxQueue = s.link.rxQueue := by unfold offerEvent; split <;> simp
@[simp] theorem offerEvent_resetPending (s : State) (e : EventFrame) : (offerEvent s e).link.resetPending = s.link.resetPending := by unfold offerEvent; split <;> simp
@[simp] theorem offerEvent_fastLine (s : State) (e : EventFrame) : (offerEvent s e).link.fastLine = s.link.fastLine := by unfold offerEvent; split <;> simp
@[simp] theorem addAnswer_bays (s : State) (a : Answer) : (addAnswer s a).bays = s.bays := by simp [addAnswer]
@[simp] theorem addAnswer_demod (s : State) (a : Answer) : (addAnswer s a).demod = s.demod := by simp [addAnswer]
@[simp] theorem addAnswer_sentRecords (s : State) (a : Answer) : (addAnswer s a).sentRecords = s.sentRecords := by simp [addAnswer]
@[simp] theorem addAnswer_pending (s : State) (a : Answer) : (addAnswer s a).pending = s.pending := by simp [addAnswer]
@[simp] theorem addAnswer_receiver (s : State) (a : Answer) : (addAnswer s a).link.receiver = s.link.receiver := by simp [addAnswer]
@[simp] theorem addAnswer_rxQueue (s : State) (a : Answer) : (addAnswer s a).link.rxQueue = s.link.rxQueue := by simp [addAnswer]
@[simp] theorem addAnswer_resetPending (s : State) (a : Answer) : (addAnswer s a).link.resetPending = s.link.resetPending := by simp [addAnswer]
@[simp] theorem addAnswer_fastLine (s : State) (a : Answer) : (addAnswer s a).link.fastLine = s.link.fastLine := by simp [addAnswer]
@[simp] theorem offerEvents_bays (s : State) (l : List EventFrame) : (l.foldl offerEvent s).bays = s.bays := by induction l generalizing s with | nil => rfl | cons e l ih => simp [ih]
@[simp] theorem offerEvents_demod (s : State) (l : List EventFrame) : (l.foldl offerEvent s).demod = s.demod := by induction l generalizing s with | nil => rfl | cons e l ih => simp [ih]
@[simp] theorem offerEvents_sentRecords (s : State) (l : List EventFrame) : (l.foldl offerEvent s).sentRecords = s.sentRecords := by induction l generalizing s with | nil => rfl | cons e l ih => simp [ih]
@[simp] theorem offerEvents_pending (s : State) (l : List EventFrame) : (l.foldl offerEvent s).pending = s.pending := by induction l generalizing s with | nil => rfl | cons e l ih => simp [ih]
@[simp] theorem offerEvents_receiver (s : State) (l : List EventFrame) : (l.foldl offerEvent s).link.receiver = s.link.receiver := by induction l generalizing s with | nil => rfl | cons e l ih => simp [ih]
@[simp] theorem offerEvents_rxQueue (s : State) (l : List EventFrame) : (l.foldl offerEvent s).link.rxQueue = s.link.rxQueue := by induction l generalizing s with | nil => rfl | cons e l ih => simp [ih]
@[simp] theorem offerEvents_resetPending (s : State) (l : List EventFrame) : (l.foldl offerEvent s).link.resetPending = s.link.resetPending := by induction l generalizing s with | nil => rfl | cons e l ih => simp [ih]
@[simp] theorem offerEvents_fastLine (s : State) (l : List EventFrame) : (l.foldl offerEvent s).link.fastLine = s.link.fastLine := by induction l generalizing s with | nil => rfl | cons e l ih => simp [ih]

section
variable (c : Ctx) (s : State)
@[simp] theorem commit_bays : (commit c s).bays = s.bays.set c.id c.bay := by simp [commit, putBay]
@[simp] theorem commit_demod : (commit c s).demod = s.demod := by simp [commit, putBay]
@[simp] theorem commit_pending : (commit c s).pending = s.pending := by simp [commit, putBay]
@[simp] theorem commit_sentRecords :
    (commit c s).sentRecords = s.sentRecords.set c.id (s.sentRecords.get c.id ++ c.records) := by
  simp [commit, putBay]
@[simp] theorem commit_receiver : (commit c s).link.receiver = s.link.receiver := by simp [commit, putBay]
@[simp] theorem commit_rxQueue : (commit c s).link.rxQueue = s.link.rxQueue := by simp [commit, putBay]
@[simp] theorem commit_resetPending : (commit c s).link.resetPending = s.link.resetPending := by
  simp [commit, putBay]
@[simp] theorem commit_fastLine : (commit c s).link.fastLine = s.link.fastLine := by simp [commit, putBay]
end

@[simp] theorem State.ctx_bay (s : State) (b : BayIx) : (s.ctx b).bay = s.bays.get b := rfl
@[simp] theorem State.ctx_id (s : State) (b : BayIx) : (s.ctx b).id = b := rfl
@[simp] theorem State.ctx_frames (s : State) (b : BayIx) : (s.ctx b).frames = [] := rfl
@[simp] theorem State.ctx_records (s : State) (b : BayIx) : (s.ctx b).records = [] := rfl

/-- A bay that gives out no event frame leaves the link alone. -/
theorem commit_of_no_frames (c : Ctx) (s : State) (h : c.frames = []) : commit c s = putBay c s := by
  simp [commit, h]

/-- A bay whose work keeps its number changes that bay alone. -/
theorem onBay_bays (b : BayIx) (f : Ctx → Ctx) (s : State) (h : (f (s.ctx b)).id = b) :
    (onBay b f s).bays = s.bays.set b (f (s.ctx b)).bay := by simp [onBay, h]

end Sys2Proof.Machine
end

