-- ==== Sys2Proof/Laws/Step.lean ====
section
/-! SUPPORT. What the receive side leaves alone, and how a property of one bay goes through a command. -/

namespace Sys2Proof.Machine

/-! ### The receive side -/

section
variable (s : State)
@[simp] theorem setReceiver_bays (r) : (s.setReceiver r).bays = s.bays := rfl
@[simp] theorem setReceiver_pending (r) : (s.setReceiver r).pending = s.pending := rfl
@[simp] theorem setReceiver_demod (r) : (s.setReceiver r).demod = s.demod := rfl
@[simp] theorem setReceiver_sentRecords (r) : (s.setReceiver r).sentRecords = s.sentRecords := rfl
@[simp] theorem takeFrame_bays : s.takeFrame.bays = s.bays := rfl
@[simp] theorem takeFrame_pending : s.takeFrame.pending = s.pending := rfl
@[simp] theorem takeFrame_demod : s.takeFrame.demod = s.demod := rfl
@[simp] theorem takeFrame_sentRecords : s.takeFrame.sentRecords = s.sentRecords := rfl
@[simp] theorem offerFrame_bays (f) : (offerFrame s f).bays = s.bays := by
  unfold offerFrame; split <;> simp
@[simp] theorem offerFrame_pending (f) : (offerFrame s f).pending = s.pending := by
  unfold offerFrame; split <;> simp
@[simp] theorem offerFrame_demod (f) : (offerFrame s f).demod = s.demod := by
  unfold offerFrame; split <;> simp
@[simp] theorem offerFrame_sentRecords (f) : (offerFrame s f).sentRecords = s.sentRecords := by
  unfold offerFrame; split <;> simp
@[simp] theorem receiveByte_bays (b) : (receiveByte s b).bays = s.bays := by
  unfold receiveByte; simp only; repeat' split
  all_goals simp
@[simp] theorem receiveByte_pending (b) : (receiveByte s b).pending = s.pending := by
  unfold receiveByte; simp only; repeat' split
  all_goals simp
@[simp] theorem receiveByte_demod (b) : (receiveByte s b).demod = s.demod := by
  unfold receiveByte; simp only; repeat' split
  all_goals simp
@[simp] theorem receiveByte_sentRecords (b) : (receiveByte s b).sentRecords = s.sentRecords := by
  unfold receiveByte; simp only; repeat' split
  all_goals simp
@[simp] theorem receiveBytes_bays (l) : (receiveBytes l s).bays = s.bays := by
  unfold receiveBytes; induction l generalizing s with | nil => rfl | cons b l ih => simp [ih]
@[simp] theorem receiveBytes_pending (l) : (receiveBytes l s).pending = s.pending := by
  unfold receiveBytes; induction l generalizing s with | nil => rfl | cons b l ih => simp [ih]
@[simp] theorem receiveBytes_demod (l) : (receiveBytes l s).demod = s.demod := by
  unfold receiveBytes; induction l generalizing s with | nil => rfl | cons b l ih => simp [ih]
@[simp] theorem receiveBytes_sentRecords (l) : (receiveBytes l s).sentRecords = s.sentRecords := by
  unfold receiveBytes; induction l generalizing s with | nil => rfl | cons b l ih => simp [ih]
@[simp] theorem arrive_bays (f) : (arrive f s).bays = s.bays := by
  unfold arrive; repeat' split
  all_goals simp
@[simp] theorem arrive_pending (f) : (arrive f s).pending = s.pending := by
  unfold arrive; repeat' split
  all_goals simp
@[simp] theorem arrive_demod (f) : (arrive f s).demod = s.demod := by
  unfold arrive; repeat' split
  all_goals simp
@[simp] theorem arrive_sentRecords (f) : (arrive f s).sentRecords = s.sentRecords := by
  unfold arrive; repeat' split
  all_goals simp
end

/-- A request row does one of two things: its frame arrives, or it arrives (or stands there) and is
taken. -/
theorem request_cases (kind tag : Byte) (body : List Byte) (own : Bool) (eff : State → State × Reply)
    (s : State) :
    request kind tag body own eff s = arrive ⟨kind, tag, body⟩ s ∨
      request kind tag body own eff s = takeRequest ⟨kind, tag, body⟩ eff (arrive ⟨kind, tag, body⟩ s) := by
  unfold request; simp only; split
  · exact .inr rfl
  · exact .inl rfl

/-- A request whose frame stands oldest is taken when the link takes it and the row owns it. -/
theorem request_taken (kind tag : Byte) (body : List Byte) (own : Bool) (eff : State → State × Reply)
    (s : State) (hq : s.link.rxQueue.head? = some ⟨kind, tag, body⟩) (hr : s.link.ready = true)
    (ho : own = true) :
    request kind tag body own eff s =
      addAnswer (eff s.takeFrame).1 ⟨kind, tag, (eff s.takeFrame).2.1, (eff s.takeFrame).2.2, true⟩ := by
  simp [request, arrive, hq, hr, ho, takeRequest]

/-! ### One bay through a command -/

/-- The bay a request hands back is the bay it was handed to. -/
structure SameBay (f : Ctx → Ctx × Reply) : Prop where
  id : ∀ c, (f c).1.id = c.id

theorem id_of_kept {c d : Ctx} (h : d.kept = c.kept) : d.id = c.id := congrArg Kept.id h

theorem setCommand_id (v) (c : Ctx) : (setCommand v c).id = c.id := id_of_kept (setCommand_kept c v)

theorem powerOnBay_id (c : Ctx) : (powerOnBay c).id = c.id :=
  (setCommand_id _ _).trans rfl

theorem powerOffBay_id (c : Ctx) : (powerOffBay c).id = c.id := by
  refine (show _ = _ from rfl).trans ((setCommand_id 0 _).trans ?_)
  split
  · exact (show _ = _ from rfl).trans (id_of_kept (endCore_kept c _))
  · rfl

theorem bayPower_id (o) (c : Ctx) : (bayPower o c).1.id = c.id := by
  unfold bayPower bayPowerOn bayPowerOff; simp only
  repeat' split
  all_goals first | rfl | exact powerOnBay_id c | exact powerOffBay_id c

theorem moveBay_id (h t o) (c : Ctx) : (moveBay h t o c).1.id = c.id := by
  unfold moveBay moveIdle moveAcquire moveFollow; simp only
  repeat' split
  all_goals first | rfl | exact id_of_kept (by simp)

theorem stopBay_id (c : Ctx) : (stopBay c).1.id = c.id := by
  unfold stopBay; simp only
  repeat' split
  all_goals first | rfl | exact id_of_kept (by simp)

theorem clearBay_id (c : Ctx) : (clearBay c).1.id = c.id := by
  unfold clearBay; simp only
  repeat' split
  all_goals first | rfl | exact id_of_kept (by simp)

theorem zoneSet_id (z o) (c : Ctx) : (zoneSet z o c).1.id = c.id := by
  unfold zoneSet zoneDefine zoneUndefine
  repeat' split
  all_goals rfl

theorem planLoad_id (o r) (c : Ctx) : (planLoad o r c).1.id = c.id := by
  unfold planLoad; simp only
  repeat' split
  all_goals rfl

theorem probeBay_id (o r) (c : Ctx) : (probeBay o r c).1.id = c.id := by
  unfold probeBay
  repeat' split
  all_goals rfl

@[simp] theorem startEngine_kept (c : Ctx) : (startEngine c).kept = c.kept := rfl

theorem sweepStart_id (c : Ctx) : (sweepStart c).1.id = c.id := by
  unfold sweepStart startIdle startFollow; simp only
  repeat' split
  all_goals first | rfl | exact id_of_kept (by simp)

theorem sweepHold_id (c : Ctx) : (sweepHold c).1.id = c.id := by
  unfold sweepHold; split
  · exact id_of_kept (by simp)
  · rfl

theorem sweepResume_id (c : Ctx) : (sweepResume c).1.id = c.id := by
  unfold sweepResume; split
  · exact id_of_kept (by simp)
  · rfl

theorem sweepAbort_id (c : Ctx) : (sweepAbort c).1.id = c.id := by
  unfold sweepAbort; split
  · exact id_of_kept (by simp)
  · rfl

theorem mapRead_id (h a b) (c : Ctx) : (mapRead h a b c).1.id = c.id := by
  unfold mapRead; split <;> rfl

theorem mapAccept_id (r) (c : Ctx) : (mapAccept r c).1.id = c.id := by
  unfold mapAccept; split <;> rfl

theorem mapClear_id (r o) (c : Ctx) : (mapClear r o c).1.id = c.id := by
  unfold mapClear
  repeat' split
  all_goals rfl

theorem setProfile_id (p) (c : Ctx) : (setProfile p c).id = c.id :=
  (id_of_kept (c := c.setProfile p) (by simp [setProfile])).trans rfl

theorem bayProfile_id (p) (c : Ctx) : (bayProfile p c).1.id = c.id := by
  unfold bayProfile
  repeat' split
  all_goals first | rfl | exact setProfile_id _ _

theorem eventRoute_id (p) (c : Ctx) : (eventRoute p c).1.id = c.id := by
  unfold eventRoute; split <;> rfl

theorem joinQueue_id (w) (c : Ctx) : (joinQueue w c).id = c.id := by
  unfold joinQueue; simp only; split
  · exact (id_of_kept (raise_kept _ _)).trans rfl
  · rfl

theorem takeWedge_id (w) (c : Ctx) : (takeWedge w c).id = c.id := by
  unfold takeWedge; split
  · exact joinQueue_id w c
  · exact id_of_kept (raise_kept _ _)

@[simp] theorem endIfComplete_kept (c : Ctx) : (endIfComplete c).kept = c.kept := by
  unfold endIfComplete
  repeat' split
  all_goals simp
@[simp] theorem takeReadback_kept (b) (c : Ctx) : (takeReadback b c).kept = c.kept := by
  unfold takeReadback; split <;> simp
@[simp] theorem passEnds_kept (c : Ctx) : (passEnds c).kept = c.kept := by
  unfold passEnds
  repeat' split
  all_goals simp
@[simp] theorem takeWriteDone_kept (c : Ctx) : (takeWriteDone c).kept = c.kept := by
  unfold takeWriteDone; split <;> simp

theorem takeRecord_id (r) (c : Ctx) : (takeRecord r c).id = c.id := by
  cases r with
  | wedge w => exact takeWedge_id w c
  | readback b => exact id_of_kept (takeReadback_kept b c)
  | temp v => exact id_of_kept (takeTemp_kept c v)
  | fault a => exact id_of_kept (takeFault_kept c a)
  | writeDone => exact id_of_kept (takeWriteDone_kept c)

/-- A property of a bay that every function a command applies to a bay keeps. -/
structure BayInvariant (P : Bay → Prop) : Prop where
  reset : P Bay.reset
  tick : ∀ k c, P c.bay → P (tickTimer k c).bay
  record : ∀ r c, r.wellFormed = true → c.bay.ctrl.state ≠ .offline → P c.bay → P (takeRecord r c).bay
  take : ∀ b, P b → P b.takeOldest
  sample : ∀ w c, c.bay.ctrl.state ≠ .offline → P c.bay → P (completeWedge w c).bay
  profile : ∀ p c, P c.bay → P (bayProfile p c).1.bay
  power : ∀ o c, P c.bay → P (bayPower o c).1.bay
  move : ∀ h t o c, P c.bay → P (moveBay h t o c).1.bay
  stop : ∀ c, P c.bay → P (stopBay c).1.bay
  clear : ∀ c, P c.bay → P (clearBay c).1.bay
  accept : ∀ r c, P c.bay → P (mapAccept r c).1.bay
  mapClear : ∀ r o c, P c.bay → P (mapClear r o c).1.bay
  snapshot : ∀ b, P b → P b.snapshot
  resetCounters : ∀ b, P b → P b.resetCounters
  selfCheck : ∀ c, P c.bay → P (selfCheck c).1.bay
  zone : ∀ z o c, P c.bay → P (zoneSet z o c).1.bay
  load : ∀ o r c, P c.bay → P (planLoad o r c).1.bay
  probe : ∀ o r c, P c.bay → P (probeBay o r c).1.bay
  start : ∀ c, P c.bay → P (sweepStart c).1.bay
  hold : ∀ c, P c.bay → P (sweepHold c).1.bay
  resume : ∀ c, P c.bay → P (sweepResume c).1.bay
  abort : ∀ c, P c.bay → P (sweepAbort c).1.bay
  status : ∀ m q c, P c.bay → P (statusOfBay m q c).1.bay
  route : ∀ p c, P c.bay → P (eventRoute p c).1.bay

/-- A property of every bay of the part. -/
def State.allBays (P : Bay → Prop) (s : State) : Prop := ∀ b, P (s.bays.get b)

section
variable {P : Bay → Prop} {s : State}

theorem allBays_set (h : s.allBays P) (b : BayIx) (x : Bay) (hx : P x) :
    ∀ a, P ((s.bays.set b x).get a) := by
  intro a
  rw [PerBay.get_set]
  split
  · exact hx
  · exact h a

theorem allBays_onBay (h : s.allBays P) (b : BayIx) (f : Ctx → Ctx) (hid : (f (s.ctx b)).id = b)
    (hf : P (f (s.ctx b)).bay) : (onBay b f s).allBays P := by
  intro a
  rw [onBay_bays b f s hid]
  exact allBays_set h b _ hf a

theorem allBays_onBayReply (h : s.allBays P) (b : BayIx) (f : Ctx → Ctx × Reply)
    (hid : (f (s.ctx b)).1.id = b) (hf : P (f (s.ctx b)).1.bay) :
    (onBayReply b f s).1.allBays P := by
  intro a
  simp only [onBayReply, commit_bays, hid]
  exact allBays_set h b _ hf a

/-- An effect that keeps a property of every bay. -/
def EffectKeeps (P : Bay → Prop) (eff : State → State × Reply) : Prop :=
  ∀ s, s.allBays P → (eff s).1.allBays P

theorem withBay_keeps (b : Byte) (f : Ctx → Ctx × Reply) (hid : ∀ c, (f c).1.id = c.id)
    (hf : ∀ c, P c.bay → P (f c).1.bay) : EffectKeeps P (withBay b f) := by
  intro s h
  unfold withBay
  split
  · exact h
  · exact allBays_onBayReply h _ f (hid _) (hf _ (h _))

theorem withFields_keeps {α : Type} (r : Option α) (f : α → State → State × Reply)
    (hf : ∀ x, EffectKeeps P (f x)) : EffectKeeps P (withFields r f) := by
  intro s h
  unfold withFields
  split
  · exact h
  · exact hf _ s h

theorem request_keeps (kind tag : Byte) (body : List Byte) (own : Bool) (eff : State → State × Reply)
    (he : EffectKeeps P eff) (h : s.allBays P) : (request kind tag body own eff s).allBays P := by
  rcases request_cases kind tag body own eff s with e | e
  · rw [e]; intro b; rw [arrive_bays]; exact h b
  · rw [e]; intro b
    simp only [takeRequest, addAnswer_bays]
    refine he _ (fun a => ?_) b
    simpa using h a

theorem tickAll_keeps (hP : BayInvariant P) (l : List TimerId) (h : s.allBays P) :
    (l.foldl tickOne s).allBays P := by
  induction l generalizing s with
  | nil => exact h
  | cons t l ih =>
    refine ih (allBays_onBay h t.bay _ ?_ ?_)
    · exact id_of_kept (tickTimer_kept _ _)
    · exact hP.tick _ _ (h t.bay)

theorem demodComplete_keeps (hP : BayInvariant P) (h : s.allBays P) : (demodComplete s).allBays P := by
  unfold demodComplete
  split
  · exact h
  · rename_i b w _
    split
    · exact h
    · rename_i ho
      refine allBays_onBay (s := s.freeDemod) h b _ ?_ ?_
      · exact id_of_kept (completeWedge_kept _ _)
      · refine hP.sample w _ ?_ (h b)
        simpa [State.offline, State.freeDemod] using ho

theorem completeFor_keeps (hP : BayInvariant P) (n : Note) (b : BayIx) (h : s.allBays P) :
    (completeFor n b s).allBays P := by
  unfold completeFor
  split
  · exact demodComplete_keeps hP h
  · exact h

theorem demodTake_keeps (hP : BayInvariant P) (h : s.allBays P) : (demodTake s).allBays P := by
  unfold demodTake
  split
  · split
    · exact allBays_set h _ _ (hP.take _ (h _))
    · exact h
  · exact h

theorem record_keeps (hP : BayInvariant P) (b : BayIx) (r : InRecord) (h : s.allBays P)
    (hr : reaches b r s = true) : (onBay b (takeRecord r) s).allBays P := by
  simp only [reaches, State.offline, Bool.and_eq_true, Bool.not_eq_true'] at hr
  refine allBays_onBay h b _ (takeRecord_id r _) (hP.record r _ hr.2 ?_ (h b))
  simpa using hr.1

theorem resetEffect_keeps (hP : BayInvariant P) : (resetEffect s).allBays P := by
  intro b
  simpa [resetEffect, resetBlocks] using hP.reset

theorem endFrame_keeps (hP : BayInvariant P) (h : s.allBays P) : s.endFrame.allBays P := by
  unfold State.endFrame
  split
  · exact h
  · split
    · intro b
      simpa [State.freeLine] using (resetEffect_keeps (s := s) hP) b
    · intro b
      simpa [State.freeLine] using h b

theorem countersEffect_keeps (hP : BayInvariant P) (body : List Byte) :
    EffectKeeps P (countersEffect body) := by
  have snap : EffectKeeps P countersSnapshot := by
    intro s h b
    cases b
    · exact hP.snapshot _ (h .bay0)
    · exact hP.snapshot _ (h .bay1)
    · exact hP.snapshot _ (h .bay2)
    · exact hP.snapshot _ (h .bay3)
  refine withFields_keeps _ _ fun x s h => ?_
  split
  · unfold countersAll
    split
    · exact snap s h
    · split
      · intro b
        cases b
        · exact hP.resetCounters _ (h .bay0)
        · exact hP.resetCounters _ (h .bay1)
        · exact hP.resetCounters _ (h .bay2)
        · exact hP.resetCounters _ (h .bay3)
      · exact h
  · split
    · exact h
    · unfold countersOne
      split
      · exact snap s h
      · split
        · exact allBays_onBayReply h _ countersRead rfl (h _)
        · split
          · exact allBays_set h _ _ (hP.resetCounters _ (h _))
          · exact h

theorem statusEffect_keeps (hP : BayInvariant P) (body : List Byte) :
    EffectKeeps P (statusEffect body) := by
  refine withFields_keeps _ _ fun x s h => ?_
  split
  · exact h
  · unfold statusOf
    split
    · exact h
    · rename_i b _ _
      intro a
      have := allBays_onBayReply h _ (statusOfBay x.2 s.events) rfl
        (hP.status x.2 s.events (s.ctx b) (h b)) a
      simp only [State.clearOverflow]
      split <;> exact this

/-- Every command keeps a property of every bay that each function on a bay keeps. -/
theorem exec_keeps (hP : BayInvariant P) (i : Instr) (h : s.allBays P) {t : State}
    (ht : exec i s = .next t) : t.allBays P := by
  cases i <;> injection ht with ht <;> subst ht
  case powerOn => intro b; simpa [poweredOn, State.reset] using hP.reset
  case timeBaseTick => exact tickAll_keeps hP _ h
  case acquireTimeout b =>
    split
    · exact allBays_onBay h b _ (id_of_kept (tickAcquire_kept _)) (hP.tick .acquisition _ (h b))
    · exact h
  case sensorStale b =>
    split
    · exact allBays_onBay h b _ (id_of_kept (tickStale_kept _)) (hP.tick .staleness _ (h b))
    · exact h
  case wedge b w =>
    split
    · exact record_keeps hP b (.wedge w) h ‹_›
    · exact h
  case readback b bits =>
    split
    · exact record_keeps hP b (.readback bits) h ‹_›
    · exact h
  case writeDone b =>
    split
    · exact record_keeps hP b .writeDone h ‹_›
    · exact h
  case temp b v =>
    split
    · exact record_keeps hP b (.temp v) h ‹_›
    · exact h
  case fault b a =>
    split
    · exact record_keeps hP b (.fault a) h ‹_›
    · exact h
  case malformedRecord b bytes =>
    unfold recordArrives
    split
    · split
      · exact record_keeps hP b _ h ‹_›
      · exact h
    · exact h
  case demodTake => exact demodTake_keeps hP h
  case demodComplete => exact demodComplete_keeps hP h
  case receiveFrame => intro b; simpa using h b
  case frameSent => exact endFrame_keeps hP h
  case unknownKind => exact request_keeps _ _ _ _ _ (fun _ h => h) h
  case ident => exact request_keeps _ _ _ _ _ (withFields_keeps _ _ fun _ _ h => h) h
  case partReset => exact request_keeps _ _ _ _ _ (withFields_keeps _ _ fun _ _ h => h) h
  case partResetEffect =>
    split
    · exact endFrame_keeps hP h
    · exact h
  case bayProfile =>
    refine request_keeps _ _ _ _ _ (withFields_keeps _ _ fun x => ?_) h
    exact withBay_keeps _ _ (bayProfile_id _) (hP.profile _)
  case bayPowerOn =>
    refine request_keeps _ _ _ _ _ (withFields_keeps _ _ fun x => ?_) h
    exact withBay_keeps _ _ (bayPower_id _) (hP.power _)
  case bayPowerOff =>
    refine request_keeps _ _ _ _ _ (withFields_keeps _ _ fun x => ?_) h
    exact withBay_keeps _ _ (bayPower_id _) (hP.power _)
  case move =>
    refine request_keeps _ _ _ _ _ (withFields_keeps _ _ fun x => ?_) h
    exact withBay_keeps _ _ (moveBay_id _ _ _) (hP.move _ _ _)
  case stop =>
    refine request_keeps _ _ _ _ _ (withFields_keeps _ _ fun x => ?_) h
    exact withBay_keeps _ _ (stopBay_id) (hP.stop)
  case clear =>
    refine request_keeps _ _ _ _ _ (withFields_keeps _ _ fun x => ?_) h
    exact withBay_keeps _ _ (clearBay_id) (hP.clear)
  case mapRead =>
    refine request_keeps _ _ _ _ _ (withFields_keeps _ _ fun x => ?_) h
    exact withBay_keeps _ _ (mapRead_id _ _ _) (fun c hc => by unfold mapRead; split <;> exact hc)
  case mapAccept =>
    refine request_keeps _ _ _ _ _ (withFields_keeps _ _ fun x => ?_) h
    exact withBay_keeps _ _ (mapAccept_id _) (hP.accept _)
  case mapClearFull =>
    refine request_keeps _ _ _ _ _ (withFields_keeps _ _ fun x => ?_) h
    exact withBay_keeps _ _ (mapClear_id _ _) (hP.mapClear _ _)
  case mapClearMarksOnly =>
    refine request_keeps _ _ _ _ _ (withFields_keeps _ _ fun x => ?_) h
    exact withBay_keeps _ _ (mapClear_id _ _) (hP.mapClear _ _)
  case refLog =>
    refine request_keeps _ _ _ _ _ (withFields_keeps _ _ fun x => ?_) h
    exact withBay_keeps _ _ (fun _ => rfl) (fun _ h => h)
  case countersSnapshot => exact request_keeps _ _ _ _ _ (countersEffect_keeps hP _) h
  case countersRead => exact request_keeps _ _ _ _ _ (countersEffect_keeps hP _) h
  case countersReset => exact request_keeps _ _ _ _ _ (countersEffect_keeps hP _) h
  case selfCheck =>
    refine request_keeps _ _ _ _ _ (withFields_keeps _ _ fun x => ?_) h
    exact withBay_keeps _ _ (fun _ => rfl) (hP.selfCheck)
  case zoneSetDefine =>
    refine request_keeps _ _ _ _ _ (withFields_keeps _ _ fun x => ?_) h
    exact withBay_keeps _ _ (zoneSet_id _ _) (hP.zone _ _)
  case zoneSetUndefine =>
    refine request_keeps _ _ _ _ _ (withFields_keeps _ _ fun x => ?_) h
    exact withBay_keeps _ _ (zoneSet_id _ _) (hP.zone _ _)
  case planLoadReplace =>
    refine request_keeps _ _ _ _ _ (withFields_keeps _ _ fun x => ?_) h
    exact withBay_keeps _ _ (planLoad_id _ _) (hP.load _ _)
  case planLoadAppend =>
    refine request_keeps _ _ _ _ _ (withFields_keeps _ _ fun x => ?_) h
    exact withBay_keeps _ _ (planLoad_id _ _) (hP.load _ _)
  case probe =>
    refine request_keeps _ _ _ _ _ (withFields_keeps _ _ fun x => ?_) h
    exact withBay_keeps _ _ (probeBay_id _ _) (hP.probe _ _)
  case sweepStart =>
    refine request_keeps _ _ _ _ _ (withFields_keeps _ _ fun x => ?_) h
    exact withBay_keeps _ _ (sweepStart_id) (hP.start)
  case sweepHold =>
    refine request_keeps _ _ _ _ _ (withFields_keeps _ _ fun x => ?_) h
    exact withBay_keeps _ _ (sweepHold_id) (hP.hold)
  case sweepResume =>
    refine request_keeps _ _ _ _ _ (withFields_keeps _ _ fun x => ?_) h
    exact withBay_keeps _ _ (sweepResume_id) (hP.resume)
  case sweepAbort =>
    refine request_keeps _ _ _ _ _ (withFields_keeps _ _ fun x => ?_) h
    exact withBay_keeps _ _ (sweepAbort_id) (hP.abort)
  case status => exact request_keeps _ _ _ _ _ (statusEffect_keeps hP _) h
  case eventRoute =>
    refine request_keeps _ _ _ _ _ (withFields_keeps _ _ fun x => ?_) h
    exact withBay_keeps _ _ (eventRoute_id _) (hP.route _)
  case impossibleLength => intro b; simpa using h b
  case byteFramingError => exact h
  all_goals exact completeFor_keeps hP _ _ h

end

end Sys2Proof.Machine
end

