-- ==== Sys2Proof/Laws/Ops.lean ====
section
/-! SUPPORT. What the shared operations on a bay do, said once for each: raising an event, adding and
removing a hold cause, starting the phase-limit count, changing the command, selecting a head, what the
loop and an averaging window do with a sample, the end of a sweep, the beginnings of work, the revisit
triggers; and how a bay's work becomes a next state of the part. -/

namespace Sys2Proof.Machine

/-- Two bays are equal when their blocks are. -/
theorem Bay.eq_of_blocks {x y : Bay} (h1 : x.profile = y.profile) (h2 : x.counter = y.counter)
    (h3 : x.intake = y.intake) (h4 : x.acq = y.acq) (h5 : x.ctrl = y.ctrl) (h6 : x.map = y.map)
    (h7 : x.zones = y.zones) (h8 : x.store = y.store) (h9 : x.meas = y.meas)
    (h10 : x.pattern = y.pattern) (h11 : x.sweep = y.sweep) (h12 : x.thermal = y.thermal)
    (h13 : x.unit = y.unit) : x = y := by
  cases x; cases y; simp_all

/-! ### Kinds -/

@[simp] theorem Details.acquired_kind (a b c d) : (Details.acquired a b c d).kind = .acquired := rfl
@[simp] theorem Details.servoLoss_kind (a b c d) : (Details.servoLoss a b c d).kind = .servoLoss := rfl
@[simp] theorem Details.acquireTimeout_kind (a b c d) : (Details.acquireTimeout a b c d).kind = .acquireTimeout := rfl
@[simp] theorem Details.positionSlip_kind (a b c) : (Details.positionSlip a b c).kind = .positionSlip := rfl
@[simp] theorem Details.quadJump_kind (a b c d) : (Details.quadJump a b c d).kind = .quadJump := rfl
@[simp] theorem Details.queueWarn_kind (a b) : (Details.queueWarn a b).kind = .queueWarn := rfl
@[simp] theorem Details.queueOverrun_kind (a b c) : (Details.queueOverrun a b c).kind = .queueOverrun := rfl
@[simp] theorem Details.stepFailed_kind (a b c d e) : (Details.stepFailed a b c d e).kind = .stepFailed := rfl
@[simp] theorem Details.driftExcess_kind (a b c d e f g) : (Details.driftExcess a b c d e f g).kind = .driftExcess := rfl
@[simp] theorem Details.resumeLost_kind (a) : (Details.resumeLost a).kind = .resumeLost := rfl
@[simp] theorem Details.sweepDone_kind (a b c d e f) : (Details.sweepDone a b c d e f).kind = .sweepDone := rfl
@[simp] theorem Details.tempHold_kind (a b) : (Details.tempHold a b).kind = .tempHold := rfl
@[simp] theorem Details.tempClear_kind (a b) : (Details.tempClear a b).kind = .tempClear := rfl
@[simp] theorem Details.tempCutoff_kind (a b c) : (Details.tempCutoff a b c).kind = .tempCutoff := rfl
@[simp] theorem Details.sensorStale_kind (a) : (Details.sensorStale a).kind = .sensorStale := rfl
@[simp] theorem Details.faultLine_kind (a b) : (Details.faultLine a b).kind = .faultLine := rfl
@[simp] theorem Details.patternLost_kind (a b c d e) : (Details.patternLost a b c d e).kind = .patternLost := rfl
@[simp] theorem Details.countSaturated_kind (a b) : (Details.countSaturated a b).kind = .countSaturated := rfl

/-! ### Adding a hold cause -/

section
variable (k : HoldCause) (c : Ctx)
theorem addCause_sweep : (addCause k c).bay.sweep =
    if c.bay.sweep.active = true then { c.bay.sweep with holds := c.bay.sweep.holds.put k true }
    else c.bay.sweep := by
  by_cases h : c.bay.sweep.active = true <;> simp [addCause, h]
/-- All that adding a hold cause does. -/
theorem addCause_eq : addCause k c = { c with bay := c.bay.holding k true } := by
  unfold addCause Bay.holding
  cases h : c.bay.sweep.active <;> simp [Ctx.sweep, Ctx.setSweep, h]
@[simp] theorem addCause_id : (addCause k c).id = c.id := by
  unfold addCause; split <;> rfl
@[simp] theorem addCause_frames : (addCause k c).frames = c.frames := by
  unfold addCause; split <;> rfl
@[simp] theorem addCause_records : (addCause k c).records = c.records := by
  unfold addCause; split <;> rfl
@[simp] theorem addCause_notes : (addCause k c).notes = c.notes := by
  unfold addCause; split <;> rfl
@[simp] theorem addCause_profile : (addCause k c).bay.profile = c.bay.profile := by
  unfold addCause; split <;> rfl
@[simp] theorem addCause_counter : (addCause k c).bay.counter = c.bay.counter := by
  unfold addCause; split <;> rfl
@[simp] theorem addCause_intake : (addCause k c).bay.intake = c.bay.intake := by
  unfold addCause; split <;> rfl
@[simp] theorem addCause_acq : (addCause k c).bay.acq = c.bay.acq := by
  unfold addCause; split <;> rfl
@[simp] theorem addCause_ctrl : (addCause k c).bay.ctrl = c.bay.ctrl := by
  unfold addCause; split <;> rfl
@[simp] theorem addCause_map : (addCause k c).bay.map = c.bay.map := by
  unfold addCause; split <;> rfl
@[simp] theorem addCause_zones : (addCause k c).bay.zones = c.bay.zones := by
  unfold addCause; split <;> rfl
@[simp] theorem addCause_store : (addCause k c).bay.store = c.bay.store := by
  unfold addCause; split <;> rfl
@[simp] theorem addCause_meas : (addCause k c).bay.meas = c.bay.meas := by
  unfold addCause; split <;> rfl
@[simp] theorem addCause_pattern : (addCause k c).bay.pattern = c.bay.pattern := by
  unfold addCause; split <;> rfl
@[simp] theorem addCause_thermal : (addCause k c).bay.thermal = c.bay.thermal := by
  unfold addCause; split <;> rfl
@[simp] theorem addCause_unit : (addCause k c).bay.unit = c.bay.unit := by
  unfold addCause; split <;> rfl
end

/-! ### Raising an event (R166) -/

section
variable (d : Details) (c : Ctx)
theorem raise_sweep : (raise d c).bay.sweep =
    if c.bay.unit.disposition d.kind = .hold ∧ c.bay.sweep.active = true then
      { c.bay.sweep with holds := c.bay.sweep.holds.put .event true }
    else c.bay.sweep := by
  unfold raise
  cases h : c.bay.unit.disposition d.kind <;>
    by_cases ha : c.bay.sweep.active = true <;> simp [addCause_sweep, ha]
@[simp] theorem raise_unit : (raise d c).bay.unit = c.bay.unit.setFlag d.kind := by
  unfold raise; split <;> simp
theorem raise_frames : (raise d c).frames = c.frames ++ c.bay.unit.offers c.id d := by
  unfold raise EventUnit.offers
  cases h : c.bay.unit.disposition d.kind <;> simp
/-- What raising an event does to the bay. -/
theorem raise_bay : (raise d c).bay = c.bay.raising d.kind := by
  unfold raise Bay.raising
  cases h : c.bay.unit.disposition d.kind <;> simp [addCause_eq, Bay.holding, Ctx.setUnit, Ctx.offer,
    Holds.put]
@[simp] theorem raise_id : (raise d c).id = c.id := by
  unfold raise; split <;> simp
@[simp] theorem raise_records : (raise d c).records = c.records := by
  unfold raise; split <;> simp
@[simp] theorem raise_notes : (raise d c).notes = c.notes := by
  unfold raise; split <;> simp
@[simp] theorem raise_profile : (raise d c).bay.profile = c.bay.profile := by
  unfold raise; split <;> simp
@[simp] theorem raise_counter : (raise d c).bay.counter = c.bay.counter := by
  unfold raise; split <;> simp
@[simp] theorem raise_intake : (raise d c).bay.intake = c.bay.intake := by
  unfold raise; split <;> simp
@[simp] theorem raise_acq : (raise d c).bay.acq = c.bay.acq := by
  unfold raise; split <;> simp
@[simp] theorem raise_ctrl : (raise d c).bay.ctrl = c.bay.ctrl := by
  unfold raise; split <;> simp
@[simp] theorem raise_map : (raise d c).bay.map = c.bay.map := by
  unfold raise; split <;> simp
@[simp] theorem raise_zones : (raise d c).bay.zones = c.bay.zones := by
  unfold raise; split <;> simp
@[simp] theorem raise_store : (raise d c).bay.store = c.bay.store := by
  unfold raise; split <;> simp
@[simp] theorem raise_meas : (raise d c).bay.meas = c.bay.meas := by
  unfold raise; split <;> simp
@[simp] theorem raise_pattern : (raise d c).bay.pattern = c.bay.pattern := by
  unfold raise; split <;> simp
@[simp] theorem raise_thermal : (raise d c).bay.thermal = c.bay.thermal := by
  unfold raise; split <;> simp
/-- Outside HOLD, or with no sweep active, raising an event adds no hold cause. -/
theorem raise_sweep_of_not_hold (h : c.bay.unit.disposition d.kind ≠ .hold ∨ c.bay.sweep.active = false) :
    (raise d c).bay.sweep = c.bay.sweep := by
  rw [raise_sweep, if_neg]
  rintro ⟨h1, h2⟩
  rcases h with h | h
  · exact h h1
  · simp [h] at h2
end

/-! ### Removing a hold cause, and starting the phase-limit count -/

/-- A cause that leaves the set does no more unless the bay is HELD and the set becomes empty (R146). -/
theorem removeCause_stays (k : HoldCause) (c : Ctx)
    (h : c.bay.ctrl.state = .held → (c.bay.holding k false).sweep.holds.isEmpty = false) :
    removeCause k c = { c with bay := c.bay.holding k false } := by
  unfold removeCause resumeIfFree Bay.holding at *
  cases ha : c.bay.sweep.active <;> simp_all [Ctx.sweep, Ctx.setSweep, Ctx.ctrl]
  exact fun free held => by simp [h held] at free

/-- Starting the count zeroes it and does no more (R134). -/
theorem startLimit_eq (c : Ctx) : startLimit c =
    { c with bay := { c.bay with sweep := { c.bay.sweep with phaseLimit := 0 } } } := rfl

/-! ### Changing the command (R66) -/

section
variable (v : Int) (c : Ctx)
theorem setCommand_ctrl : (setCommand v c).bay.ctrl = { c.bay.ctrl with command := v } := by
  unfold setCommand
  split
  · rename_i h
    rw [show v = c.bay.ctrl.command from h]
  · rfl
theorem setCommand_records :
    (setCommand v c).records = c.records ++ driveIfChanged c.bay.ctrl.command v := by
  unfold setCommand driveIfChanged
  by_cases h : v = c.bay.ctrl.command <;> simp [h]
@[simp] theorem setCommand_frames : (setCommand v c).frames = c.frames := by
  unfold setCommand; split <;> rfl
@[simp] theorem setCommand_notes : (setCommand v c).notes = c.notes := by
  unfold setCommand; split <;> rfl
@[simp] theorem setCommand_profile : (setCommand v c).bay.profile = c.bay.profile := by
  unfold setCommand; split <;> rfl
@[simp] theorem setCommand_counter : (setCommand v c).bay.counter = c.bay.counter := by
  unfold setCommand; split <;> rfl
@[simp] theorem setCommand_intake : (setCommand v c).bay.intake = c.bay.intake := by
  unfold setCommand; split <;> rfl
@[simp] theorem setCommand_acq : (setCommand v c).bay.acq = c.bay.acq := by
  unfold setCommand; split <;> rfl
@[simp] theorem setCommand_map : (setCommand v c).bay.map = c.bay.map := by
  unfold setCommand; split <;> rfl
@[simp] theorem setCommand_zones : (setCommand v c).bay.zones = c.bay.zones := by
  unfold setCommand; split <;> rfl
@[simp] theorem setCommand_store : (setCommand v c).bay.store = c.bay.store := by
  unfold setCommand; split <;> rfl
@[simp] theorem setCommand_meas : (setCommand v c).bay.meas = c.bay.meas := by
  unfold setCommand; split <;> rfl
@[simp] theorem setCommand_pattern : (setCommand v c).bay.pattern = c.bay.pattern := by
  unfold setCommand; split <;> rfl
@[simp] theorem setCommand_sweep : (setCommand v c).bay.sweep = c.bay.sweep := by
  unfold setCommand; split <;> rfl
@[simp] theorem setCommand_thermal : (setCommand v c).bay.thermal = c.bay.thermal := by
  unfold setCommand; split <;> rfl
@[simp] theorem setCommand_unit : (setCommand v c).bay.unit = c.bay.unit := by
  unfold setCommand; split <;> rfl
end

/-! ### Selecting a head (R55) -/

section
variable (h : Nat) (c : Ctx)
/-- Selecting the selected head does nothing. -/
theorem headSelect_same (e : h = c.bay.ctrl.selHead) : headSelect h c = c := by
  simp [headSelect, e]
theorem headSelect_records :
    (headSelect h c).records = c.records ++ headIfChanged c.bay.ctrl.selHead h := by
  unfold headSelect headIfChanged
  by_cases e : h = c.bay.ctrl.selHead <;> simp [e]
theorem headSelect_ctrl (e : h ≠ c.bay.ctrl.selHead) : (headSelect h c).bay.ctrl =
    { c.bay.ctrl with selHead := h, switchWait := c.bay.profile.headSwitchWedges, settle := 0 } := by
  simp [headSelect, e]
theorem headSelect_acq (e : h ≠ c.bay.ctrl.selHead) :
    (headSelect h c).bay.acq = { c.bay.acq with run := 0, loss := 0 } := by
  simp [headSelect, e]
theorem headSelect_counter (e : h ≠ c.bay.ctrl.selHead) :
    (headSelect h c).bay.counter = c.bay.counter.unresolve := by
  simp [headSelect, e]
@[simp] theorem headSelect_id : (headSelect h c).id = c.id := by
  unfold headSelect; split <;> rfl
@[simp] theorem headSelect_frames : (headSelect h c).frames = c.frames := by
  unfold headSelect; split <;> rfl
@[simp] theorem headSelect_notes : (headSelect h c).notes = c.notes := by
  unfold headSelect; split <;> rfl
@[simp] theorem headSelect_profile : (headSelect h c).bay.profile = c.bay.profile := by
  unfold headSelect; split <;> rfl
@[simp] theorem headSelect_intake : (headSelect h c).bay.intake = c.bay.intake := by
  unfold headSelect; split <;> rfl
@[simp] theorem headSelect_map : (headSelect h c).bay.map = c.bay.map := by
  unfold headSelect; split <;> rfl
@[simp] theorem headSelect_zones : (headSelect h c).bay.zones = c.bay.zones := by
  unfold headSelect; split <;> rfl
@[simp] theorem headSelect_store : (headSelect h c).bay.store = c.bay.store := by
  unfold headSelect; split <;> rfl
@[simp] theorem headSelect_meas : (headSelect h c).bay.meas = c.bay.meas := by
  unfold headSelect; split <;> rfl
@[simp] theorem headSelect_pattern : (headSelect h c).bay.pattern = c.bay.pattern := by
  unfold headSelect; split <;> rfl
@[simp] theorem headSelect_sweep : (headSelect h c).bay.sweep = c.bay.sweep := by
  unfold headSelect; split <;> rfl
@[simp] theorem headSelect_thermal : (headSelect h c).bay.thermal = c.bay.thermal := by
  unfold headSelect; split <;> rfl
@[simp] theorem headSelect_unit : (headSelect h c).bay.unit = c.bay.unit := by
  unfold headSelect; split <;> rfl
end

/-! ### Samples and the end of a sweep -/

/-- Holding a value within `±limit` is taking the nearer end. -/
theorem clampSym_eq (limit : Nat) (v : Int) : clampSym limit v = max (-(limit : Int)) (min limit v) := by
  unfold clampSym clamp
  split
  · omega
  · split <;> omega

/-- All that a loop update does (R59, R60, R62). -/
theorem loopUpdate_eq (pos now final : Int) (c : Ctx) :
    loopUpdate pos now final c = c.setCtrl (c.bay.ctrl.updated c.bay.profile pos now final) := by
  simp only [loopUpdate, loopCommand, loopError, clampSym_eq, slew, derivative, truncDiv, satInc,
    Ctrl.updated, Ctx.profile, Ctx.ctrl, ite_not]
  rfl

/-- All that the loop does with a sample. -/
theorem loopReceives_ctx (y : Sample) (c : Ctx) :
    (loopReceives y c).1 = c.setCtrl (c.bay.ctrl.heard c.bay.profile y) := by
  unfold loopReceives Ctrl.heard
  cases hf : c.bay.ctrl.frozen
  · cases hc : y.cls <;> cases hp : y.position <;> simp [hf]
    by_cases hh : y.head = c.bay.ctrl.loopHead <;> simp [hh]
    cases hn : c.bay.ctrl.targetNow <;> cases ht : c.bay.ctrl.targetFinal <;> simp
    exact loopUpdate_eq _ _ _ c
  · simp [hf]

/-- All that a change of the loop head does to the bay controller (R56). -/
theorem setLoopHead_ctrl (h : Nat) (c : Ctx) :
    (setLoopHead h c).bay.ctrl = { c.bay.ctrl with
      loopHead := h, selHead := h
      switchWait := if c.bay.ctrl.selHead = h then c.bay.ctrl.switchWait
        else c.bay.profile.headSwitchWedges
      settle := if c.bay.ctrl.selHead = h ∧ c.bay.ctrl.loopHead = h then c.bay.ctrl.settle else 0
      targetNow := if c.bay.ctrl.loopHead = h then c.bay.ctrl.targetNow else none
      prevErr := if c.bay.ctrl.loopHead = h then c.bay.ctrl.prevErr else none } := by
  obtain ⟨_, ⟨p, _, _, _, k, _, _, _, _, _, _, _, _⟩, _, _, _⟩ := c
  cases k with | mk st lh sh sw tf tn pe cmd se fr wa =>
  rcases eq_or_ne h lh with rfl | h1 <;> rcases eq_or_ne h sh with e | h2 <;> try subst e
  all_goals simp_all [setLoopHead, headSelect, Ctx.ctrl, Ctx.setCtrl, Ctx.send, Ctx.setCounter,
    Ctx.setAcq, Ctx.profile, Ne.symm]

/-- All that restoring the reference head does to the bay controller (R53). -/
theorem restoreRef_ctrl (c : Ctx) : (restoreRef c).bay.ctrl = c.bay.ctrl.restored c.bay.profile := by
  rw [restoreRef, setLoopHead_ctrl]
  rfl

/-- All that steps 1 to 5 of a sweep end other than COMPLETE do to the bay (R149). -/
theorem endCore_bay {o : SweepOutcome} (h : o ≠ .complete) (c : Ctx) :
    (endCore o c).bay = c.bay.sweepEnded o := by
  unfold endCore
  rw [raise_bay]
  simp [h, Bay.raising, Bay.sweepEnded, Holds.none, dropWork, closeWindow, endWrite, closeCapture]

/-- The event frames of such an end. -/
theorem endCore_frames {o : SweepOutcome} (h : o ≠ .complete) (c : Ctx) :
    (endCore o c).frames = c.frames ++ c.bay.doneFrames c.id o := by
  unfold endCore
  rw [raise_frames]
  simp [h, Bay.doneFrames, dropWork, closeWindow, endWrite, closeCapture]

/-! ### Averaging window -/

section
variable (w : Window) (y : Sample)
@[simp] theorem Window.deliver_head : w.deliver.head = w.head := rfl
@[simp] theorem Window.deliver_size : w.deliver.size = w.size := rfl
@[simp] theorem Window.deliver_delivered : w.deliver.delivered = w.delivered + 1 := rfl
@[simp] theorem Window.deliver_collected : w.deliver.collected = w.collected := rfl
@[simp] theorem Window.collect_head : (w.collect y).head = w.head := by
  unfold Window.collect; split <;> [rfl; split <;> rfl]
@[simp] theorem Window.collect_size : (w.collect y).size = w.size := by
  unfold Window.collect; split <;> [rfl; split <;> rfl]
@[simp] theorem Window.collect_delivered : (w.collect y).delivered = w.delivered := by
  unfold Window.collect; split <;> [rfl; split <;> rfl]
/-- A POSITION sample of the window's head is collected (R87). -/
theorem Window.collect_position {pos : Int} (h : y.head = w.head) (hc : y.cls = .position)
    (hp : y.position = some pos) : w.collect y =
      { w with collected := w.collected + 1, sum := w.sum + pos
               extremes := some (widen w.extremes pos), bursts := w.bursts + y.burstSum.getD 0
               syncSeen := true } := by
  simp [Window.collect, h, hc, hp]
/-- Any other sample is not, and changes sync seen at most (R87). -/
theorem Window.collect_other (h : y.head ≠ w.head ∨ y.cls ≠ .position) :
    ∃ seen, w.collect y = { w with syncSeen := seen } := by
  unfold Window.collect
  split
  · exact ⟨_, rfl⟩
  · split
    · simp_all
    all_goals exact ⟨_, rfl⟩
end

/-! ### A bay's work as a next state -/

/-- A bay's work commits as the shape `leaves` tells. -/
theorem onBay_leaves {s : State} {b : BayIx} {x : Bay} {fr : List EventFrame} {rs : List OutRecord}
    (f : Ctx → Ctx) (h1 : (f (s.ctx b)).id = b) (h2 : (f (s.ctx b)).bay = x)
    (h3 : (f (s.ctx b)).frames = fr) (h4 : (f (s.ctx b)).records = rs) :
    onBay b f s = s.leaves b x fr rs := by
  subst h2 h3 h4
  unfold onBay State.leaves
  generalize f (s.ctx b) = c at *
  subst h1
  rfl

/-- A bay's work on a request commits and answers as the shape `grants` tells. -/
theorem grants_of_reply {s : State} {b : BayIx} {x : Bay} {fr : List EventFrame} {rs : List OutRecord}
    {st : Status} {reply : List Byte} (fm : Frame) (f : Ctx → Ctx × Reply)
    (h1 : (f (s.takeFrame.ctx b)).1.id = b) (h2 : (f (s.takeFrame.ctx b)).1.bay = x)
    (h3 : (f (s.takeFrame.ctx b)).1.frames = fr) (h4 : (f (s.takeFrame.ctx b)).1.records = rs)
    (h5 : (f (s.takeFrame.ctx b)).2 = (st, reply)) :
    addAnswer (onBayReply b f s.takeFrame).1
      ⟨fm.kind, fm.tag, (onBayReply b f s.takeFrame).2.1, (onBayReply b f s.takeFrame).2.2, true⟩ =
      s.grants fm b x fr rs st reply := by
  unfold State.grants State.leaves onBayReply
  simp only [h5]
  subst h2 h3 h4
  generalize (f (s.takeFrame.ctx b)).1 = c at *
  subst h1
  rfl

/-- Work that changes nothing leaves the part as it is. -/
theorem commit_ctx (s : State) (b : BayIx) : commit (s.ctx b) s = s := by
  cases s; simp [commit, putBay, State.ctx, Ctx.start]

@[simp] theorem bayOfByte_byte (b : BayIx) : bayOfByte b.byte = some b := by cases b <;> rfl

/-! ### The beginnings of work -/

section
variable (c : Ctx)
/-- All that the beginning of SEEK does. -/
theorem beginSeek_eq (w : Work) : beginSeek w c =
    { c with bay := c.bay.seeks { w with phase := .seek } (clampTarget (jobZone w.job c).centre) } := rfl

/-- The centre of a track of the range is a target of the range. -/
theorem clampTarget_centre {z : Zone} (h : z.track ≤ 524287) : clampTarget z.centre = z.track * 4096 := by
  have low : ¬ z.centre < Config.positionMin := by simp only [Zone.centre, Config.positionMin]; omega
  have high : ¬ Config.positionMax < z.centre := by simp only [Zone.centre, Config.positionMax]; omega
  rw [clampTarget, clamp, if_neg low, if_neg high, Zone.centre]; omega

/-- All that the beginning of a visit does to a bay in SWEEP, its reference zone defined on a track of the
range. -/
theorem beginVisit_eq (k : VisitKind) {z : Zone} (hz : zoneGet c.bay.zones c.bay.profile.refZone = some z)
    (h : z.track ≤ 524287) (hs : c.bay.ctrl.state = .sweep) :
    beginVisit k c = { c with bay := c.bay.visits k z.track } := by
  have : jobZone (.visit k) c = z := by simp [jobZone, Ctx.profile, hz]
  simp only [beginVisit, beginWork, Work.fresh, beginSeek_eq, this, clampTarget_centre h, Bay.visits, ← hs]

/-- All that naming another head as the loop head does, no other head being selected (R55, R56). -/
theorem setLoopHead_eq {h : Nat} (hs : c.ctrl.selHead = c.ctrl.loopHead) (hh : h ≠ c.ctrl.loopHead) :
    setLoopHead h c = { c with bay := c.bay.onHead h, records := c.records ++ [.head h] } := by
  have h1 : h ≠ c.ctrl.selHead := hs ▸ hh
  have h2 : h ≠ c.bay.ctrl.selHead := h1
  simp only [setLoopHead, if_neg hh]
  simp [headSelect, Ctx.setCtrl, h2, Ctx.ctrl, Ctx.send, Ctx.setCounter, Ctx.setAcq, Ctx.profile, Bay.onHead,
    Counter.unresolve]

/-- All that the test of the revisit triggers does (R101). -/
theorem testTriggers_eq : testTriggers c = { c with bay := c.bay.flagged } := rfl

/-- Whether a trigger is due after the test. -/
theorem testTriggers_due : (testTriggers c).meas.due = c.bay.isDue := rfl
end

end Sys2Proof.Machine
end

