-- ==== Sys2Proof/Laws/Tables.lean ====
section
/-! SUPPORT. The tables by number (Head Map, zone table): putting a value keeps the canonical form, and a
read after a put gives the value put at its key and the old value elsewhere. -/

namespace Sys2Proof.Machine

section
variable {α : Type} [DecidableEq α] (d : α)

/-- A larger floor is a stronger form. -/
theorem Table.wfFrom_mono {t : Table α} {m n : Nat} (h : m ≤ n) (hw : Table.wfFrom d n t = true) :
    Table.wfFrom d m t = true := by
  cases t with
  | nil => rfl
  | cons kv rest =>
    obtain ⟨k, v⟩ := kv
    simp only [Table.wfFrom, Bool.and_eq_true, decide_eq_true_eq] at hw ⊢
    exact ⟨⟨h.trans hw.1.1, hw.1.2⟩, hw.2⟩

/-- Below its floor a table reads as unlisted. -/
theorem Table.get_of_lt {t : Table α} {n i : Nat} (hw : Table.wfFrom d n t = true) (h : i < n) :
    Table.get d t i = d := by
  induction t generalizing n with
  | nil => rfl
  | cons kv rest ih =>
    obtain ⟨k, v⟩ := kv
    simp only [Table.wfFrom, Bool.and_eq_true, decide_eq_true_eq] at hw
    have hk : k ≠ i := by omega
    simp only [Table.get, if_neg hk]
    exact ih hw.2 (by omega)

/-- Putting a value at or above the floor keeps the canonical form. -/
theorem Table.wfFrom_put {t : Table α} {n i : Nat} (v : α) (hw : Table.wfFrom d n t = true) (h : n ≤ i) :
    Table.wfFrom d n (Table.put d t i v) = true := by
  induction t generalizing n with
  | nil =>
    by_cases hv : v = d <;> simp [Table.put, Table.wfFrom, hv, h]
  | cons kv rest ih =>
    obtain ⟨k, w⟩ := kv
    have hw' := hw
    simp only [Table.wfFrom, Bool.and_eq_true, decide_eq_true_eq] at hw'
    obtain ⟨⟨h1, h2⟩, h3⟩ := hw'
    by_cases c1 : i < k
    · by_cases hv : v = d
      · simpa [Table.put, c1, hv] using hw
      · simp [Table.put, c1, hv, Table.wfFrom, h, h2, h3, Nat.succ_le_of_lt c1]
    · by_cases c2 : k = i
      · subst c2
        by_cases hv : v = d
        · simpa [Table.put, hv] using Table.wfFrom_mono d (by omega) h3
        · simp [Table.put, hv, Table.wfFrom, h1, h3]
      · have := ih h3 (by omega : k + 1 ≤ i)
        simp [Table.put, c1, c2, Table.wfFrom, h1, h2, this]

/-- Putting a value keeps the canonical form. -/
theorem Table.wf_put {t : Table α} (i : Nat) (v : α) (hw : Table.wf d t = true) :
    Table.wf d (Table.put d t i v) = true :=
  Table.wfFrom_put d v hw (Nat.zero_le i)

theorem Table.get_put_from {t : Table α} {n i : Nat} (v : α) (a : Nat) (hw : Table.wfFrom d n t = true) :
    Table.get d (Table.put d t i v) a = if a = i then v else Table.get d t a := by
  induction t generalizing n with
  | nil =>
    by_cases hv : v = d <;> by_cases ha : a = i <;> simp [Table.put, Table.get, hv, ha, eq_comm]
    intro e; exact absurd e.symm ha
  | cons kv rest ih =>
    obtain ⟨k, w⟩ := kv
    have hw' := hw
    simp only [Table.wfFrom, Bool.and_eq_true, decide_eq_true_eq] at hw'
    obtain ⟨⟨h1, h2⟩, h3⟩ := hw'
    by_cases c1 : i < k
    · by_cases hv : v = d
      · by_cases ha : a = i
        · subst ha
          have hk : k ≠ a := by omega
          simp [Table.put, c1, hv, Table.get, hk, Table.get_of_lt d h3 (by omega : a < k + 1)]
        · simp [Table.put, c1, hv, ha]
      · by_cases ha : a = i
        · simp [Table.put, c1, hv, ha, Table.get]
        · simp [Table.put, c1, hv, ha, Table.get, Ne.symm ha]
    · by_cases c2 : k = i
      · subst c2
        by_cases hv : v = d
        · by_cases ha : a = k
          · subst ha
            simp [Table.put, hv, Table.get_of_lt d h3 (Nat.lt_succ_self a)]
          · simp [Table.put, hv, ha, Table.get, Ne.symm ha]
        · by_cases ha : a = k
          · simp [Table.put, hv, ha, Table.get]
          · simp [Table.put, hv, ha, Table.get, Ne.symm ha]
      · have := ih h3
        by_cases ha : k = a
        · subst ha
          simp [Table.put, c1, c2, Table.get]
        · simp [Table.put, c1, c2, Table.get, ha, this]

/-- A read after a put. -/
theorem Table.get_put {t : Table α} (i : Nat) (v : α) (a : Nat) (hw : Table.wf d t = true) :
    Table.get d (Table.put d t i v) a = if a = i then v else Table.get d t a :=
  Table.get_put_from d v a hw

end

/-! ### The Head Map and the zone table -/

theorem mapPut_wf {m : Table Entry} (h z : Nat) (e : Entry) (hw : Table.wf Entry.empty m = true) :
    Table.wf Entry.empty (mapPut m h z e) = true := Table.wf_put _ _ _ hw

theorem zonePut_wf {t : Table (Option Zone)} (z : Nat) (r : Option Zone) (hw : Table.wf none t = true) :
    Table.wf none (zonePut t z r) = true := Table.wf_put _ _ _ hw

/-- Two entries of the map have the same place only when head and zone agree. -/
theorem mapKey_inj {h z h' z' : Nat} (hz : z < 24) (hz' : z' < 24) :
    mapKey h z = mapKey h' z' ↔ h = h' ∧ z = z' := by
  simp only [mapKey, Config.zones]
  omega

/-- A read of the map after a put. -/
theorem mapGet_mapPut {m : Table Entry} (h z h' z' : Nat) (e : Entry) (hw : Table.wf Entry.empty m = true)
    (hz : z < 24) (hz' : z' < 24) :
    mapGet (mapPut m h z e) h' z' = if h' = h ∧ z' = z then e else mapGet m h' z' := by
  unfold mapGet mapPut
  rw [Table.get_put _ _ _ _ hw]
  simp only [mapKey_inj hz' hz]

/-- Changing the PROVISIONAL parts of the map keeps its canonical form. -/
theorem mapProvisional_wf (f : OffsetPart → OffsetPart) {m : Table Entry}
    (hw : Table.wf Entry.empty m = true) : Table.wf Entry.empty (mapProvisional f m) = true := by
  suffices ∀ n, Table.wfFrom Entry.empty n m = true →
      Table.wfFrom Entry.empty n (mapProvisional f m) = true from this 0 hw
  clear hw
  induction m with
  | nil => intro n h; exact h
  | cons kv rest ih =>
    obtain ⟨k, e⟩ := kv
    intro n h
    simp only [Table.wfFrom, Bool.and_eq_true, decide_eq_true_eq] at h
    have ih' := ih (k + 1) h.2
    simp only [mapProvisional, List.map_cons] at ih' ⊢
    split
    · split
      · simp only [Table.wfFrom, Bool.and_eq_true, decide_eq_true_eq]
        exact ⟨⟨h.1.1, by simp [Entry.empty]⟩, ih'⟩
      · simp only [Table.wfFrom, Bool.and_eq_true, decide_eq_true_eq]
        exact ⟨h.1, ih'⟩
    · simp only [Table.wfFrom, Bool.and_eq_true, decide_eq_true_eq]
      exact ⟨h.1, ih'⟩

/-- Changing named entries keeps the canonical form. -/
theorem mapNamed_wf (f : Entry → Entry) (named : List (Nat × Nat)) {m : Table Entry}
    (hw : Table.wf Entry.empty m = true) : Table.wf Entry.empty (mapNamed f named m) = true := by
  unfold mapNamed
  induction named generalizing m with
  | nil => exact hw
  | cons hz rest ih => exact ih (mapPut_wf _ _ _ hw)

end Sys2Proof.Machine
end

