-- ==== Sys2Proof/Tests/Slice0.lean ====
section
/-! SUPPORT. Tests: operands that the checks of WellFormed refuse, the spec's own bytes and worked examples,
and for every statement with hypotheses a named witness that they can be met, clause by clause. -/

namespace Sys2Proof.Tests

open Sys2Proof Sys2Proof.Machine

/-! ### Small states -/

/-- The part with a given bay 1. -/
def at1 (x : Bay) : State := { State.reset with bays := ⟨Bay.reset, x, Bay.reset, Bay.reset⟩ }

/-- A bay in a state of the bay controller. -/
def bayIn (st : BayState) : Bay := { Bay.reset with ctrl := { Ctrl.reset with state := st } }

/-- A request waits in the receive queue. -/
def asks (kind : Byte) (body : List Byte) (s : State) : State :=
  { s with link := { s.link with rxQueue := [⟨kind, 7, body⟩] } }

/-- A wedge of bay 1 is in flight. -/
def flying (w : Wedge) (s : State) : State := { s with demod := ⟨some (.bay1, w), .bay1⟩ }

/-- A wedge of head 0 without servo sync. -/
def noSync : Wedge := ⟨0, none⟩

/-- A wedge of head 0 with Den 1000, quadrant I, t = 512, on track 100. -/
def clean : Wedge := ⟨0, some ⟨0, 500, 0, 500, 0, some 100⟩⟩

/-- The state that a command leads to. -/
def after (i : Instr) (s : State) : State :=
  match exec i s with
  | .next t => t
  | _ => s

/-! ### WellFormed refuses -/

theorem test_wf_wedge_head : (Instr.wedge .bay0 ⟨16, none⟩).wellFormed = false := by decide
theorem test_wf_wedge_burst :
    (Instr.wedge .bay0 ⟨0, some ⟨0, 4096, 0, 0, 0, none⟩⟩).wellFormed = false := by decide
theorem test_wf_wedge_track :
    (Instr.wedge .bay0 ⟨0, some ⟨0, 0, 0, 0, 0, some 524288⟩⟩).wellFormed = false := by decide
theorem test_wf_readback : (Instr.readback .bay0 []).wellFormed = false := by decide
theorem test_wf_temp : (Instr.temp .bay0 601).wellFormed = false := by decide
theorem test_wf_tick :
    (Instr.timeBaseTick [⟨.bay0, .revisit⟩, ⟨.bay0, .revisit⟩]).wellFormed = false := by decide
theorem test_wf_unknown : (Instr.unknownKind 0x50 0 []).wellFormed = false := by decide
theorem test_wf_length : (Instr.impossibleLength 2 0).wellFormed = false := by decide
theorem test_wf_receive :
    (Instr.receiveFrame (List.replicate 1028 0)).wellFormed = false := by decide +kernel
theorem test_wf_empty : (Instr.ident 0 [0]).wellFormed = false := by decide
theorem test_wf_bay : (Instr.stop 0 []).wellFormed = false := by decide
theorem test_wf_option : (Instr.bayPowerOn 0 [0, 0]).wellFormed = false := by decide
theorem test_wf_count : (Instr.planLoadReplace 0 [0, 0, 2, 0, 0, 0]).wellFormed = false := by decide
theorem test_wf_zone : (Instr.zoneSetUndefine 0 [0, 0, 0]).wellFormed = false := by decide

/-! ### Bytes from the spec -/

/-- Section 10.1.1: the IDENT frame with tag 5 is seven bytes, its check 0x08 then 0x0F. -/
theorem test_frame_ident : frameBytes 0x01 0x05 [] = [0xC3, 0x02, 0x00, 0x01, 0x05, 0x08, 0x0F] := by
  decide

/-- Section 10.1.1: those bytes arriving put the request in the receive queue. -/
theorem test_receive_ident :
    (after (.receiveFrame [0xC3, 0x02, 0x00, 0x01, 0x05, 0x08, 0x0F]) .reset).link.rxQueue =
      [⟨0x01, 0x05, []⟩] := by decide

/-- Section 10.1.1: with tag 4 received the sums are 7 and 14, and the frame is discarded. -/
theorem test_receive_bad_check :
    (after (.receiveFrame [0xC3, 0x02, 0x00, 0x01, 0x04, 0x08, 0x0F]) .reset).link.rxQueue = [] := by
  decide

/-- Section 10.7.5: a wedge record with sync and track. -/
theorem test_record_wedge : parseRecord
    [0x01, 0x02, 0x03, 0x07, 0x28, 0x0A, 0x78, 0x05, 0x98, 0x08, 0xE8, 0x03, 0xE8, 0x03, 0x00] =
      some (.wedge ⟨2, some ⟨7, 2600, 1400, 2200, 1000, some 1000⟩⟩) := by decide
/-- Section 10.7.5: a track without sync is malformed. -/
theorem test_record_track_without_sync : parseRecord [0x01, 0x02, 0x02] = none := by decide
/-- Section 10.7.5: a TEMP of −40 °C and a FAULT level. -/
theorem test_record_temp : parseRecord [0x03, 0x60, 0xFF] = some (.temp (-160)) := by decide
theorem test_record_fault : parseRecord [0x04, 0x01] = some (.fault true) := by decide
/-- Section 10.7.5: the first bit is the most significant of the first byte. -/
theorem test_record_readback : parseRecord [0x02, 0x03, 0x00, 0xA0] =
    some (.readback [true, false, true]) := by decide

/-- Section 10.7.2: MOVE's body, bay 1, head 3, track 1001, offset 904. -/
theorem test_body_move : readMove [0x01, 0x03, 0xE9, 0x03, 0x00, 0x00, 0x88, 0x03] =
    some (0x01, 3, 1001, 904) := by decide

/-! ### Chapter 1 -/

/-- A FOLLOW bay's context with head 0 and an unresolved counter. -/
def ctx0 : Ctx := Ctx.start .bay1 (bayIn .follow)

/-- Section 1.3, the five worked cases. -/
theorem test_demod_cases :
    (classify ⟨0, some ⟨1, 2600, 1400, 2200, 1000, some 1000⟩⟩ ctx0).2.position = some 4096512 ∧
    (classify ⟨0, some ⟨1, 900, 2700, 1500, 2100, some 1000⟩⟩ ctx0).2.position = some 4094208 ∧
    (classify ⟨0, some ⟨1, 1000, 1000, 2500, 1200, some 1000⟩⟩ ctx0).2.position = some 4097024 ∧
    (classify ⟨0, some ⟨1, 1700, 1000, 1999, 2000, some 1000⟩⟩ ctx0).2.position = some 4095999 ∧
    (classify ⟨0, some ⟨1, 1100, 1000, 1000, 1050, some 1000⟩⟩ ctx0).2.cls = .weak := by decide

/-- Section 1.7, wedge 7: Cq 4002 in quadrant III meets track 1002, slip +4. -/
theorem test_counter_slip :
    (resync 5 1002 .three (ctx0.setCounter ⟨4002, some .three, true, none, none⟩)).bay.counter =
      ⟨4006, some .three, true, some ⟨4, 0⟩, none⟩ := by decide

/-- Section 1.7, wedges 3 and 8: a step of 1 counts, a step of 2 leaves the counter unresolved. -/
theorem test_counter_steps :
    (⟨4001, some .two, true, none, none⟩ : Counter).step .three =
      (⟨4002, some .three, true, none, none⟩, false) ∧
    (⟨4006, some .three, true, none, none⟩ : Counter).step .one =
      (⟨4006, some .one, false, none, none⟩, true) := by decide

/-- Section 1.5.1: after bay 0 was served, with bay 1 empty, bay 2 is served. -/
theorem test_arbitration : (after .demodTake { State.reset with
    bays := ⟨{ bayIn .idle with intake := ⟨[noSync], false⟩ }, bayIn .idle,
      { bayIn .idle with intake := ⟨[noSync], false⟩ },
      { bayIn .idle with intake := ⟨[noSync, noSync, noSync], false⟩ }⟩
    demod := ⟨none, .bay0⟩ }).demod = ⟨some (.bay2, noSync), .bay2⟩ := by decide

/-! ### Chapter 3 -/

/-- Section 3.6.1: 10 for an error of 100 after 120; section 3.6.2: the first command is clamped. -/
theorem test_command :
    loopCommand { Profile.default with bias := -40 } 100 (some 120) = 10 ∧
    loopCommand Profile.default 2038 (some 0) = 8192 ∧
    loopCommand Profile.default 1500 (some 2996) = -5230 := by decide

/-- Section 3.6.2: the slew of 5000 PU in steps of 2048. -/
theorem test_slew : slew 2048 4096000 4101000 = 4098048 ∧ slew 2048 4100096 4101000 = 4101000 := by
  decide

/-! ### Chapters 4 and 5 -/

/-- Section 5.2.1: avg_count 10 gives N = 8 and the limit 96. -/
theorem test_window_size :
    windowSize 10 = 8 ∧ (⟨0, 8, 0, 0, none, 0, 0, false⟩ : Window).limit = 96 := by decide

/-- Section 5.6: the drift line of 1500 at 0 and 1543 at 10 gives 1513 at 3; section 4.7: 1526 at 6. -/
theorem test_drift : interp ⟨0, 1500, none⟩ ⟨10, 1543, none⟩ 3 = 1513 ∧
    interp ⟨0, 1500, none⟩ ⟨10, 1543, none⟩ 6 = 1526 := by decide

/-! ### Chapter 6 -/

/-- A context in HUNT. -/
def ctxHunt : Ctx := ctx0.setPattern Pattern.reset

/-- Section 6.2.2: bit 49 locks. -/
theorem test_checker_locks :
    (feedBits ((passBits 1 true).take 48) ctxHunt).bay.pattern.checker = .check ∧
    (feedBits ((passBits 1 true).take 49) ctxHunt).bay.pattern.checker = .locked := by decide +kernel

/-- Section 6.2.2: the flipped bit 65 is the one mismatch. -/
theorem test_checker_mismatch :
    let p := (feedBits ((passBits 1 true).take 65) ctxHunt).bay.pattern
    p.posCompared = 16 ∧ p.posMismatches = 1 ∧ p.winCompared = 16 := by decide +kernel

/-- Section 6.4.2: the worked scan, and with position 4 NO_LOCK. -/
theorem test_scan :
    (evaluateScan Profile.default ⟨1000, 512, 128⟩ [.noLock, .count 40, .count 3, .count 0, .count 0,
      .count 1, .count 0, .count 9, .noLock] 1 none none).jog = some (64, 512) ∧
    (evaluateScan Profile.default ⟨1000, 512, 128⟩ [.noLock, .count 40, .count 3, .count 0, .noLock,
      .count 1, .count 0, .count 9, .noLock] 1 none none).cause = some .narrowWindow := by decide

/-- Section 6.4.2: of two runs equally long and equally near 0 the lower is chosen. -/
theorem test_scan_lower : chooseRun ⟨1000, 512, 128⟩ [(2, 3), (5, 6)] = some (2, 3) := by decide

/-- Sections 5.3 and 6.4, R184: a phase is sent as its place in the table of its kind of work. -/
theorem test_phase_codes :
    [Phase.seek, .settle, .refAvg, .switch, .headAvg, .retHead].map
      (fun p => (Work.fresh (.offset 1 0) p).phaseCode) = [0, 1, 2, 3, 4, 5].map some ∧
    [Phase.loopSwitchOut, .seek, .settle, .writePass, .move 3, .settleAt 3, .read 3,
      .loopSwitchBack].map (fun p => (Work.fresh (.jog 1 0) p).phaseCode) =
        [0, 1, 2, 3, 4, 5, 6, 7].map some := by decide

/-! ### Chapter 7 -/

/-- R131's table of requests. -/
theorem test_zone_clamp : zoneClamped 1000 512 128 = ⟨1000, 512, 128⟩ ∧
    zoneClamped 1000 1000 10 = ⟨1000, 256, 16⟩ ∧ zoneClamped 2000 20000 4096 = ⟨2000, 16384, 4096⟩ ∧
    (zoneClamped 2000 100 128).positions = 1 := by decide

/-- Section 7.8, boundary 6: a fifth suspended plan abandons the base plan at the bottom. -/
theorem test_resume_lost :
    let c := ctx0.setSweep { ctx0.sweep with
      stack := [.probe 12 [⟨.ref, 0, 0⟩], .probe 11 [⟨.ref, 0, 0⟩], .probe 10 [⟨.ref, 0, 0⟩], .base 1]
      basePlan := .standing }
    (pushPlan (.probe 13 [⟨.ref, 0, 0⟩]) c).bay.sweep.basePlan = .lost ∧
    (pushPlan (.probe 13 [⟨.ref, 0, 0⟩]) c).bay.sweep.lost = 1 ∧
    (pushPlan (.probe 13 [⟨.ref, 0, 0⟩]) c).bay.sweep.stack.length = 4 := by decide

/-! ### Chapter 10 -/

/-- Section 10.3.1: tag 6 finds four requests waiting and is answered QUEUE_FULL while an event frame is
on the line. -/
theorem test_queue_full :
    let f (t : Byte) : Frame := ⟨0x12, t, [1]⟩
    let s := { State.reset with link := { State.reset.link with
      rxQueue := [f 2, f 3, f 4, f 5], replies := [⟨0x12, 1, .ok, [], true⟩]
      line := some (.event ⟨.bay1, .queueWarn 29 32⟩) } }
    (after (.receiveFrame (frameBytes 0x12 6 [1])) s).link.replies =
      [⟨0x12, 1, .ok, [], true⟩, ⟨0x12, 6, .queueFull, [], false⟩] := by decide

/-! ### Witnesses: the hypotheses of the statements can be met -/

/-- A bay in FOLLOW on head 0, its loop seeded. -/
def follow : Bay := { Bay.reset with
  ctrl := { Ctrl.reset with state := .follow, targetNow := some 4096, targetFinal := some 4096 } }

/-- A part with a wedge waiting to be processed. -/
def waiting : State := { at1 follow with pending := [.wedge .bay1 noSync] }

theorem witness_StepRunsFrontCommand :
    waiting.pending = .wedge .bay1 noSync :: [] ∧ State.reset.pending = [] := ⟨rfl, rfl⟩

theorem waiting_steps : ∃ t, step waiting = .next t := ⟨_, rfl⟩

theorem witness_StepKeepsLinkLaw : waiting.linkLaw ∧ ∃ t, step waiting = .next t :=
  ⟨by decide, waiting_steps⟩
theorem witness_StepKeepsQueueLaw :
    (∀ b, (waiting.bays.get b).queueLaw ∧ (waiting.bays.get b).offlineEmpty) ∧
      ∃ t, step waiting = .next t := ⟨by intro b; cases b <;> decide, waiting_steps⟩
theorem witness_StepKeepsStoreCountersTables :
    (∀ b, (waiting.bays.get b).storeLaw ∧ (waiting.bays.get b).counterLaw ∧
      (waiting.bays.get b).tablesLaw) ∧ ∃ t, step waiting = .next t :=
  ⟨by intro b; cases b <;> decide, waiting_steps⟩
theorem witness_StepKeepsCommandLaw :
    (∀ b, (waiting.bays.get b).commandLaw) ∧ ∃ t, step waiting = .next t :=
  ⟨by intro b; cases b <;> decide, waiting_steps⟩
/-- A sample of head 2 whose part is PROVISIONAL with sequence number 4. -/
def provisional : OffsetPart :=
  ⟨.provisional, none, none, some 4, none, 1, some 4, none, some 600, some 3⟩

/-- A bay that measures head 2, its heads apart, with a log, a PROVISIONAL part, a marked entry of head 3
and a suspended base plan under a probe. -/
def engaged : Bay := { Bay.reset with
  ctrl := { Ctrl.reset with state := .sweep, selHead := 2, frozen := true }
  map := [(mapKey 2 0, ⟨false, some provisional, none⟩), (mapKey 3 0, ⟨true, none, none⟩)]
  zones := [(0, some ⟨100, 512, 128⟩)]
  meas := { Meas.reset with log := [⟨0, 40, none⟩, ⟨3, 44, none⟩] }
  sweep := { Sweep.reset with
    active := true, number := 1, seqNext := 6, plan := some (.probe 1 [])
    stack := [.probe 2 (List.replicate 7 ⟨.ref, 0, 0⟩), .base 1]
    probe := some (3, List.replicate 8 ⟨.ref, 0, 0⟩)
    work := some { Work.fresh (.offset 2 0) .headAvg with seq := some 5 } } }

/-- A part whose bay 1 is at work, with a wedge waiting. -/
def working : State := { at1 engaged with pending := [.wedge .bay1 noSync] }

theorem working_steps : ∃ t, step working = .next t := ⟨_, rfl⟩

theorem witness_StepKeepsMarkLaw :
    (∀ b, (working.bays.get b).markLaw) ∧ (∃ t, step working = .next t) ∧
    working.pending = .wedge .bay1 noSync :: [] ∧ (∀ high, Instr.wedge .bay1 noSync ≠ .powerOn high) ∧
    (∀ tag body, Instr.wedge .bay1 noSync ≠ .mapClearFull tag body ∧
      Instr.wedge .bay1 noSync ≠ .mapClearMarksOnly tag body) ∧ working.resetDue = false ∧
    (mapGet (working.bays.get .bay1).map 3 0).accepted = true :=
  ⟨by intro b; cases b <;> decide, working_steps, rfl, by simp, by simp, by decide, by decide⟩
theorem witness_StepKeepsStackLaw :
    (∀ b, (working.bays.get b).stackLaw) ∧ ∃ t, step working = .next t :=
  ⟨by intro b; cases b <;> decide, working_steps⟩
theorem witness_StepKeepsLogLaw :
    (∀ b, (working.bays.get b).logLaw) ∧ ∃ t, step working = .next t :=
  ⟨by intro b; cases b <;> decide, working_steps⟩
theorem witness_StepKeepsProvisionalLaw :
    (∀ b, let x := working.bays.get b; x.activeLaw ∧ x.logLaw ∧ x.offsetLaw ∧ x.provisionalLaw) ∧
      ∃ t, step working = .next t :=
  ⟨by intro b; cases b <;> decide, working_steps⟩
theorem witness_StepKeepsHeadsLaw :
    (∀ b, let x := working.bays.get b; x.activeLaw ∧ x.loopLaw ∧ x.headsLaw) ∧
      ∃ t, step working = .next t :=
  ⟨by intro b; cases b <;> decide, working_steps⟩

theorem witness_BytesAreRead_records :
    (InRecord.temp 600).wellFormed = true ∧ (InRecord.temp (-160)).wellFormed = true ∧
    (InRecord.readback (List.replicate 256 true)).wellFormed = true ∧
    (InRecord.wedge ⟨15, some ⟨255, 4095, 0, 4095, 0, some 524287⟩⟩).wellFormed = true := by decide +kernel
theorem witness_BytesAreRead_frames :
    bodyFits (List.replicate 1020 0) = true ∧ State.reset.link.receiver = .hunting ∧
      State.reset.link.closed = false := by decide +kernel
theorem witness_BadInputsAreDiscarded :
    ((State.reset.bays.get .bay0).ctrl.state = .offline ∧ (⟨16, none⟩ : Wedge).wellFormed = false ∧
      ¬(1 ≤ (List.replicate 257 true).length ∧ (List.replicate 257 true).length ≤ 256) ∧
      ¬((-160 : Int) ≤ -161 ∧ (-161 : Int) ≤ 600) ∧ parseRecord [0x06] = none) ∧
    ([(8 : Byte), 0] ≠ [BitVec.ofNat 8 (fletcher (frameCovered 1 5 [])).1,
      BitVec.ofNat 8 (fletcher (frameCovered 1 5 [])).2] ∧ bodyFits [] = true) ∧
    ¬ (2 ≤ (1 : Byte).toNat + 256 * (0 : Byte).toNat ∧ (1 : Byte).toNat + 256 * (0 : Byte).toNat ≤ 1022) ∧
    ¬ (2 ≤ (255 : Byte).toNat + 256 * (3 : Byte).toNat ∧
      (255 : Byte).toNat + 256 * (3 : Byte).toNat ≤ 1022) ∧
    State.reset.link.receiver = .hunting ∧ State.reset.link.closed = false ∧
    (let l : Link := { State.reset.link with
       rxQueue := List.replicate 4 ⟨0x01, 7, []⟩
       replies := List.replicate 4 ⟨0x01, 7, .queueFull, [], false⟩ }
     4 ≤ l.rxQueue.length ∧ 4 ≤ l.replies.countP (fun a => !a.taken) ∧ l.closed = true) := by
  decide +kernel

theorem witness_CleanBitsLock : 49 ≤ 49 := by decide

/-- A bay two ticks before its acquisition timer and its staleness timer expire. -/
def acquiring (elapsed stale : Nat) : Bay := { bayIn .acquire with
  acq := ⟨.follow, 3, elapsed, 0⟩
  thermal := { Thermal.reset with staleTimer := stale, staleRunning := true } }

theorem witness_TicksCountAndExpire_counts :
    let s := at1 (acquiring 2998 498)
    (∀ b, (s.bays.get b).ctrl.state = .acquire →
      (s.bays.get b).acq.elapsed + 1 < (s.bays.get b).profile.acqTimeoutMs) ∧
    (∀ b, (s.bays.get b).thermal.staleRunning = true → (s.bays.get b).thermal.staleTimer + 1 < 500) ∧
    (s.bays.get .bay1).ctrl.state = .acquire ∧ (s.bays.get .bay1).thermal.staleRunning = true := by
  refine ⟨?_, ?_, by decide, by decide⟩ <;> intro b <;> cases b <;> decide
theorem witness_TicksCountAndExpire_expires :
    (let x := acquiring 2999 0
     let y := { x with sweep := { x.sweep with active := true } }
     x.ctrl.state = .acquire ∧ x.profile.acqTimeoutMs ≤ x.acq.elapsed + 1 ∧
      x.ctrl.selHead = x.ctrl.loopHead ∧ x.sweep.active = false ∧ y.sweep.active = true) ∧
    (let x := acquiring 2998 499
     x.thermal.staleRunning = true ∧ 500 ≤ x.thermal.staleTimer + 1 ∧
      ¬ (x.ctrl.state = .acquire ∧ x.profile.acqTimeoutMs ≤ x.acq.elapsed + 1)) ∧
    ¬ (500 ≤ (acquiring 0 498).thermal.staleTimer + 1) := by decide

/-- A bay in FOLLOW with `n` records in its queue. -/
def queued (n : Nat) (warn : Bool) : Bay := { follow with intake := ⟨List.replicate n noSync, warn⟩ }

theorem witness_WedgeArrives :
    noSync.wellFormed = true ∧ (queued 0 false).ctrl.state ≠ .offline ∧
    (let x := queued 31 true
     x.intake.queue.length < x.profile.queueDepth ∧
      ¬(x.intake.warn = false ∧ x.intake.queue.length + 1 = x.profile.queueDepth - 3)) ∧
    (let x := queued 28 false
     x.intake.queue.length < x.profile.queueDepth ∧ x.intake.warn = false ∧
      x.intake.queue.length + 1 = x.profile.queueDepth - 3) ∧
    (queued 32 true).profile.queueDepth ≤ (queued 32 true).intake.queue.length := by decide

/-- A JOG step of head 1 and zone 0 in a phase. -/
def jog (p : Phase) : Work := Work.fresh (.jog 1 0) p

/-- A bay in SWEEP with work in flight; zone 0 is on track 100 with nine scan positions. -/
def sweeping (w : Work) : Bay := { Bay.reset with
  ctrl := { Ctrl.reset with state := .sweep }
  zones := [(0, some ⟨100, 512, 128⟩)]
  sweep := { Sweep.reset with active := true, number := 1, work := some w } }

/-- A bay that reads scan position 0. -/
def reading (cap : Capture) : Bay :=
  { sweeping (jog (.read 0)) with pattern := { Pattern.reset with capture := some cap } }

theorem witness_PatternRecordsArrive :
    1 ≤ [true].length ∧ [true].length ≤ 256 ∧ follow.ctrl.state ≠ .offline ∧
    follow.pattern.capture = none ∧ follow.pattern.write = none ∧
    (let x := reading ⟨8, 6, 0⟩
     x.ctrl.state ≠ .offline ∧ x.pattern.capture = some ⟨8, 6, 0⟩ ∧
      x.sweep.work = some (jog (.read 0)) ∧ (jog (.read 0)).phase = .read 0 ∧ 6 + 1 < 8) ∧
    (let x := reading ⟨8, 7, 0⟩
     x.pattern.capture = some ⟨8, 7, 0⟩ ∧ 8 = 7 + 1 ∧
      0 + 1 < (jobZone (jog (.read 0)).job ((at1 x).ctx .bay1)).positions) ∧
    (let x := { sweeping (jog .writePass) with pattern := { Pattern.reset with write := some 0 } }
     x.ctrl.state ≠ .offline ∧ x.pattern.write = some 0 ∧ x.sweep.work = some (jog .writePass) ∧
      (jog .writePass).phase = .writePass) := by decide
/-- A HELD bay with hold causes and thermal levels, its zone 0 on the last track. -/
def heldBy (h : Holds) (th : Thermal) : Bay := { Bay.reset with
  ctrl := { Ctrl.reset with state := .held }
  zones := [(0, some ⟨524287, 512, 128⟩)]
  thermal := th
  sweep := { Sweep.reset with active := true, holds := h } }

theorem witness_TempArrives :
    (let x := follow
     x.ctrl.state ≠ .offline ∧ x.thermal.stale = false ∧ x.thermal.hold = false ∧
      x.thermal.cutoff = false ∧ (259 : Int) < x.profile.cutoffTemp ∧ (219 : Int) < x.profile.holdTemp ∧
      x.profile.holdTemp ≤ 220 ∧ x.ctrl.state ≠ .fault ∧ x.thermal.line = false ∧
      x.profile.cutoffTemp ≤ 260) ∧
    (let x := heldBy ⟨true, true, true, false, false⟩ { Thermal.reset with stale := true, hold := true }
     x.thermal.stale = true ∧ x.thermal.hold = true ∧
      (207 : Int) < x.profile.holdTemp - x.profile.hyst ∧ x.profile.holdTemp - x.profile.hyst ≤ 208 ∧
      ((x.holding .stale false).holding .thermal false).sweep.holds.isEmpty = false) ∧
    (let x : Bay := { bayIn .fault with thermal := { Thermal.reset with hold := true } }
     x.ctrl.state = .fault ∧ x.thermal.stale = false ∧ x.thermal.hold = true ∧
      x.thermal.cutoff = false ∧ x.profile.holdTemp ≤ 260 ∧ x.profile.cutoffTemp ≤ 260) := by decide

/-- A bay in FOLLOW with a fault_line_action and a fault line level. -/
def faulty (a : FaultLineAction) (line : Bool) : Bay := { follow with
  profile := { Profile.default with faultLineAction := a }
  thermal := { Thermal.reset with line := line } }

theorem witness_FaultLineArrives :
    (∀ a l, (faulty a l).ctrl.state ≠ .offline ∧ (faulty a l).thermal.line = l ∧
      (faulty a l).profile.faultLineAction = a) ∧
    (let x := faulty .cutoff false
     x.thermal.cutoff = false ∧ x.sweep.active = false ∧ x.ctrl.state ≠ .fault ∧
      x.ctrl.selHead = x.ctrl.loopHead ∧
      { x with sweep := { x.sweep with active := true } }.sweep.active = true) ∧
    (faulty .cutoff true).profile.faultLineAction ≠ .hold ∧ (bayIn .fault).ctrl.state = .fault ∧
    ((heldBy ⟨true, false, false, true, false⟩ Thermal.reset).holding .faultLine
      false).sweep.holds.isEmpty = false := by
  refine ⟨?_, by decide⟩
  intro a l
  cases a <;> cases l <;> decide
theorem witness_LastCauseResumes :
    let ref : StepRec := ⟨.ref, 0, 0⟩
    let logged (x : Bay) : Bay := { x with
      meas := { x.meas with log := [⟨0, 40, none⟩] }
      sweep := { x.sweep with plan := some (.probe 9 [ref]) } }
    let due (x : Bay) : Bay := { logged x with meas := { (logged x).meas with offsetCount := 16 } }
    let hot := heldBy ⟨false, true, false, false, false⟩ { Thermal.reset with hold := true }
    let old := heldBy ⟨false, false, true, false, false⟩ { Thermal.reset with stale := true }
    let y := heldBy ⟨false, false, false, true, false⟩ { Thermal.reset with line := true }
    let line : Bay := { y with profile := { y.profile with faultLineAction := .hold } }
    (∀ f ∈ [id, logged, due],
      (∀ x ∈ [f hot, f old, f line], x.ctrl.state = .held ∧ x.sweep.active = true ∧
        zoneGet x.zones x.profile.refZone = some ⟨524287, 512, 128⟩ ∧ x.thermal.cutoff = false) ∧
      ((207 : Int) < (f hot).profile.cutoffTemp ∧ (f hot).thermal.stale = false ∧
        (f hot).thermal.hold = true ∧ (207 : Int) < (f hot).profile.holdTemp - (f hot).profile.hyst ∧
        (f hot).sweep.holds = ⟨false, true, false, false, false⟩ ∧
        (f hot).unit.disposition .tempClear ≠ .hold) ∧
      ((f old).thermal.stale = true ∧ (f old).thermal.hold = false ∧
        (219 : Int) < (f old).profile.holdTemp ∧ (f old).sweep.holds = ⟨false, false, true, false, false⟩) ∧
      ((f line).thermal.line = true ∧ (f line).profile.faultLineAction = .hold ∧
        (f line).sweep.holds = ⟨false, false, false, true, false⟩)) ∧
    (∀ x ∈ [hot, old, line], x.meas.log = [] ∧ (logged x).isDue = false ∧
      (logged x).sweep.probe = none ∧ (logged x).sweep.plan = some (.probe 9 (ref :: [])) ∧
      (due x).isDue = true) ∧ ref.kind = .ref := by decide

/-! ### Witnesses: requests on the link -/

/-- A reply being sent. -/
def sending (a : Answer) : State :=
  { State.reset with link := { State.reset.link with line := some (.answer a) } }

theorem witness_RequestAnsweredOnce :
    requestOf (.stop 7 [1]) = some (⟨0x12, 7, [1]⟩, true) ∧
    (asks 0x12 [1] (at1 follow)).link.rxQueue.head? = some ⟨0x12, 7, [1]⟩ ∧
    (asks 0x12 [1] (at1 follow)).link.ready = true ∧
    requestOf (.bayPowerOn 7 [1, 0]) = some (⟨0x10, 7, [1, 0]⟩, false) ∧
    (asks 0x10 [1, 0] (at1 follow)).link.rxQueue.head? = some ⟨0x10, 7, [1, 0]⟩ ∧
    (let s := asks 0x12 [1] (at1 follow)
     { s with link := { s.link with resetPending := true } }.link.ready = false) := by decide
theorem witness_IdentResetAndUnknownKind :
    (asks 0x01 [] State.reset).takes ⟨0x01, 7, []⟩ ∧
    (asks 0x01 [0] State.reset).takes ⟨0x01, 7, 0 :: []⟩ ∧
    requestKinds.contains 0x04 = false ∧ requestKinds.contains 0x52 = false ∧
    (asks 0x04 [9] State.reset).takes ⟨0x04, 7, [9]⟩ ∧
    (asks 0x02 [] State.reset).takes ⟨0x02, 7, []⟩ ∧
    (asks 0x02 [0] State.reset).takes ⟨0x02, 7, 0 :: []⟩ := by decide
theorem witness_FrameEnds :
    (let s := sending ⟨0x02, 7, .ok, [], true⟩
     let s := { s with link := { s.link with resetPending := true } }
     s.link.resetPending = true ∧ s.link.line = some (.answer ⟨0x02, 7, .ok, [], true⟩)) ∧
    (let a : Answer := ⟨0x12, 7, .ok, [1], true⟩
     let e : EventFrame := ⟨.bay1, .queueWarn 29 32⟩
     let s := sending a
     State.reset.link.line = none ∧ s.link.line = some (.answer a) ∧ s.link.resetPending = false ∧
      { s with link := { s.link with replies := [a] } }.link.replies = a :: [] ∧
      s.link.replies = [] ∧ s.events.frames = [] ∧
      { s with events := ⟨[e], false⟩ }.events.frames = e :: []) ∧
    (let s := sending ⟨0x02, 7, .queueFull, [], false⟩
     let s := { s with link := { s.link with resetPending := true } }
     s.link.resetPending = true ∧
      ∀ tag body, s.link.line ≠ some (.answer ⟨0x02, tag, .ok, body, true⟩)) :=
  ⟨by decide, by decide, by decide, by simp [sending]⟩
theorem witness_EventFramesQueue :
    let e : EventFrame := ⟨.bay1, .queueWarn 29 32⟩
    let full : State := { sending ⟨0x12, 7, .ok, [1], true⟩ with
      bays := ⟨Bay.reset, queued 32 true, Bay.reset, Bay.reset⟩
      events := ⟨List.replicate 16 e, false⟩ }
    full.events.frames.length = 16 ∧
    (sending ⟨0x12, 7, .ok, [1], true⟩).events.frames.length < 16 ∧
    (sending ⟨0x12, 7, .ok, [1], true⟩).link.line ≠ none ∧
    State.reset.link.line = none ∧ State.reset.link.replies = [] ∧ State.reset.events.frames = [] ∧
    (let x := full.bays.get .bay1
     noSync.wellFormed = true ∧ x.ctrl.state ≠ .offline ∧
      x.profile.queueDepth ≤ x.intake.queue.length ∧ x.unit.disposition .queueOverrun ≠ .latch) := by
  decide

/-! ### Witnesses: the demodulator and the sweep engine's phases -/

theorem witness_DemodTakesAndCompletes :
    ((flying noSync State.reset).demod.busy ≠ none ∧ (∀ b, State.reset.offersWedge b = false) ∧
    (let s := at1 (queued 29 true)
     let l := s.demod.lastServed
     s.demod.busy = none ∧
      [nextBay l, nextBay (nextBay l), nextBay (nextBay (nextBay l)), l] =
        [.bay0] ++ .bay1 :: [.bay2, .bay3] ∧
      (∀ a ∈ [BayIx.bay0], (s.bays.get a).ctrl.state = .offline ∨ (s.bays.get a).intake.queue = []) ∧
      (s.bays.get .bay1).ctrl.state ≠ .offline ∧
      (s.bays.get .bay1).intake.queue = noSync :: List.replicate 28 noSync)) ∧
    (State.reset.demod.busy = none ∧ (flying noSync State.reset).demod.busy = some (.bay1, noSync) ∧
      ((flying noSync State.reset).bays.get .bay1).ctrl.state = .offline ∧
      (bayIn .idle).ctrl.state = .idle ∧ (bayIn .fault).ctrl.state = .fault ∧
      (bayIn .idle).ctrl.switchWait = 0 ∧ (bayIn .fault).ctrl.switchWait = 0) := by
  refine ⟨⟨by decide, fun b => by cases b <;> decide, by decide⟩, by decide⟩

/-- The burst sum written out. -/
def burstSum (y : WedgeSync) : Nat := ((y.a : Int) - y.b).natAbs + ((y.c : Int) - y.d).natAbs

theorem witness_UnresolvedCounter :
    let y (t : Option Nat) : WedgeSync := ⟨0, 256, 0, 0, 0, t⟩
    ctx0.bay.counter.resolved = false ∧ 0 = ctx0.bay.ctrl.selHead ∧
    ctx0.bay.profile.minSum ≤ burstSum (y none) ∧ (y none).track = none ∧
    ctx0.bay.profile.minSum ≤ burstSum (y (some 524287)) ∧
    (y (some 524287)).track = some 524287 ∧
    (∀ z ∈ [y none, y none], z.track = none ∧ ctx0.bay.profile.minSum ≤ burstSum z) := by decide

theorem witness_ResolvedCounter_classes :
    let y : WedgeSync := ⟨0, 255, 0, 0, 0, some 7⟩
    (⟨0, none⟩ : Wedge).sync = none ∧ 15 ≠ ctx0.bay.ctrl.selHead ∧ 0 = ctx0.bay.ctrl.selHead ∧
    burstSum y < ctx0.bay.profile.minSum ∧ burstSum y + 1 = ctx0.bay.profile.minSum := by decide

theorem witness_ResolvedCounter_steps :
    let y (a b c d : Nat) (t : Option Nat) : WedgeSync := ⟨0, a, b, c, d, t⟩
    let c (cq : Int) (qp : Quadrant) : Ctx := ctx0.setCounter ⟨cq, some qp, true, none, none⟩
    (∀ qp ∈ [Quadrant.one, .two, .three, .four], ∀ cq ∈ [(-2 : Int), 2097149, 400],
      (c cq qp).bay.counter.resolved = true ∧ (c cq qp).bay.counter.qp = some qp) ∧
    (∀ t ∈ [none, some 100, some 524287], ∀ w ∈ [y 256 0 0 0 t, y 0 0 256 0 t, y 0 256 0 0 t,
        y 0 0 0 256 t], ctx0.bay.profile.minSum ≤ burstSum w ∧ w.track = t) := by decide

/-- A bay in ACQUIRE at its last sample, with the work that waits. -/
def lastSample (intent : Intent) (work : Option Work) (h : Holds) : Bay := { bayIn .acquire with
  acq := ⟨intent, 31, 5, 0⟩
  zones := [(0, some ⟨524287, 512, 128⟩)]
  sweep := { Sweep.reset with active := true, number := 1, work := work, holds := h } }

theorem witness_AcquisitionRuns :
    let waits := Work.fresh (.offset 2 0) .interrupted
    (∀ x ∈ [lastSample .follow none Holds.none, lastSample .sweep (some waits) Holds.none,
        lastSample .sweep none ⟨true, false, false, false, false⟩, lastSample .sweep none Holds.none],
      let s := flying clean (at1 x)
      s.demod.busy = some (.bay1, clean) ∧ (classify clean (s.ctx .bay1)).2.cls = .position ∧
        (classify clean (s.ctx .bay1)).2.position = some 410112 ∧ x.ctrl.state = .acquire ∧
        x.ctrl.switchWait = 0 ∧ x.acq.run ≤ 255 ∧ x.profile.acqCount ≤ min 255 (x.acq.run + 1) ∧
        x.sweep.seqNext < 65536 ∧ x.meas.log = [] ∧
        zoneGet x.zones x.profile.refZone = some ⟨524287, 512, 128⟩) ∧
    (∀ h z, waits.job ≠ .jog h z) ∧
    (let x := lastSample .follow none Holds.none
     (classify noSync ((flying noSync (at1 x)).ctx .bay1)).2.cls ≠ .position) := by
  refine ⟨by decide, fun h z => by simp [Work.fresh], by decide⟩
theorem witness_LoopHearsInFollow :
    let unseeded : Bay := { follow with ctrl := { follow.ctrl with targetNow := none } }
    let frozen : Bay := { follow with ctrl := { follow.ctrl with frozen := true } }
    let losing : Bay := { follow with acq := { Acq.reset with loss := 22 } }
    (∀ x ∈ [follow, unseeded, frozen],
      let s := flying clean (at1 x)
      let y := (classify clean (s.ctx .bay1)).2
      s.demod.busy = some (.bay1, clean) ∧ y.cls = .position ∧ y.position = some 410112 ∧
        y.head = x.ctrl.loopHead ∧ x.ctrl.state = .follow ∧ x.ctrl.switchWait = 0 ∧
        x.ctrl.selHead = x.ctrl.loopHead ∧ x.ctrl.watch = none) ∧
    (follow.ctrl.frozen = false ∧ follow.ctrl.targetNow = some 4096 ∧
      follow.ctrl.targetFinal = some 4096) ∧
    (unseeded.ctrl.frozen = false ∧ unseeded.ctrl.targetNow = none) ∧ frozen.ctrl.frozen = true ∧
    ((classify noSync ((flying noSync (at1 losing)).ctx .bay1)).2.cls = .noSync ∧
      losing.acq.loss + 1 < lossThreshold losing.profile) := by decide

theorem witness_ServoLossEntersAcquire :
    let x (n : Nat) : Bay := { follow with acq := { Acq.reset with loss := n } }
    (flying noSync (at1 (x 23))).demod.busy = some (.bay1, ⟨0, none⟩) ∧ (x 23).ctrl.state = .follow ∧
    (x 23).ctrl.switchWait = 0 ∧ (x 23).ctrl.selHead = (x 23).ctrl.loopHead ∧
    (x 23).sweep.active = false ∧ (x 23).profile.lossMode = .normal ∧ 24 ≤ (x 23).acq.loss + 1 ∧
    (x 22).acq.loss + 1 < 24 := by decide
theorem witness_SwitchWaitRuns :
    (∀ st ∈ [BayState.idle, .acquire, .follow, .held, .fault], ∀ k ∈ [0, 63],
      let x : Bay := { bayIn st with ctrl := { (bayIn st).ctrl with switchWait := k + 1 } }
      (flying clean (at1 x)).demod.busy = some (.bay1, clean) ∧ x.ctrl.state ≠ .offline ∧
        x.ctrl.state ≠ .sweep ∧ x.ctrl.switchWait = k + 1 ∧ x.ctrl.watch = none) ∧
    (∀ q ∈ [(Phase.retHead, (none : Option Nat)), (.loopSwitchOut, none), (.loopSwitchBack, none),
        (.switch, none), (.seek, some 3998), (.settle, some 0), (.move 0, some 3998),
        (.settleAt 8, some 3998)], ∀ k ∈ [0, 63],
      let w := jog q.1
      let x0 := sweeping w
      let x : Bay := { x0 with ctrl := { x0.ctrl with switchWait := k + 1, watch := q.2 } }
      (flying clean (at1 x)).demod.busy = some (.bay1, clean) ∧ x.ctrl.state = .sweep ∧
        x.ctrl.switchWait = k + 1 ∧ x.sweep.work = some w ∧ w.phase = q.1 ∧ x.ctrl.watch = q.2 ∧
        (∀ n ∈ q.2, n + 1 < x.profile.settleTimeout)) ∧
    (2 ^ 2 ≤ 4 ∧ 4 < 2 ^ 3) ∧ (2 ^ 7 ≤ 255 ∧ 255 < 2 ^ 8) ∧ (2 ^ 8 ≤ 256 ∧ 256 < 2 ^ 9) ∧
    2 ^ 5 ≤ Profile.default.avgCount ∧ Profile.default.avgCount < 2 ^ 6 := by decide

/-- An OFFSET step of head 2 and zone 0 in a phase. -/
def offset (p : Phase) : Work := Work.fresh (.offset 2 0) p

theorem witness_SettleTimeoutFailsStep :
    let w := offset .settle
    let x0 := sweeping w
    let x : Bay := { x0 with
      ctrl := { x0.ctrl with watch := some 3999 }
      sweep := { x0.sweep with holds := { Holds.none with host := true } } }
    (flying noSync (at1 x)).demod.busy = some (.bay1, ⟨0, none⟩) ∧ x.ctrl.state = .sweep ∧
    x.ctrl.switchWait = 0 ∧ x.ctrl.selHead = x.ctrl.loopHead ∧ x.ctrl.frozen = false ∧
    x.acq.loss + 1 < lossThreshold x.profile ∧ x.ctrl.watch = some 3999 ∧
    x.profile.settleTimeout ≤ 3999 + 1 ∧ 0 < x.profile.settleCount ∧ x.sweep.work = some w ∧
    w.phase = .settle ∧ w.job = .offset 2 0 ∧ (mapGet x.map 2 0).accepted = false ∧
    x.sweep.seqNext < 65536 ∧ x.sweep.holds.isEmpty = false ∧ x.sweep.measured < 65535 := by decide
/-- A bay whose settle watch stands at `n` and whose settle count is `settle`, its target reached or not. -/
def settling (w : Work) (n settle : Nat) (reached internal : Bool) : Bay :=
  let y := sweeping w
  { y with
    profile := { y.profile with patternLoop := if internal then .internal else .off }
    ctrl := { y.ctrl with watch := some n, settle := settle, targetNow := some 410112
                          targetFinal := some (if reached then 410112 else 510112) } }

theorem witness_SettlingPhasesAdvance :
    (∀ w ∈ [offset .seek, offset .settle, jog .seek, jog .settle, jog (.move 0), jog (.settleAt 0),
        jog (.move 8), jog (.settleAt 8), Work.fresh (.visit .opening) .settle,
        { jog .settle with seq := some 4 }],
      ∀ q ∈ [(3998, 0, true), (3998, 0, false), (3999, 15, true), (0, 15, true)],
        let x := settling w q.1 q.2.1 q.2.2 false
        let s := flying clean (at1 x)
        s.demod.busy = some (.bay1, clean) ∧ x.ctrl.state = .sweep ∧ x.ctrl.switchWait = 0 ∧
          x.ctrl.selHead = x.ctrl.loopHead ∧ x.acq.loss + 1 < lossThreshold x.profile ∧
          x.ctrl.watch = some q.1 ∧ x.sweep.work = some w ∧ x.ctrl.frozen = false ∧
          (classify clean (s.ctx .bay1)).2.cls = .position ∧ x.ctrl.targetNow ≠ none ∧
          x.ctrl.targetFinal ≠ none) ∧
    (let k (n settle : Nat) (reached : Bool) : Ctrl :=
       let s := flying clean (at1 (settling (offset .seek) n settle reached false))
       ((s.bays.get .bay1).heard (classify clean (s.ctx .bay1)).2).ctrl
     ((k 3998 0 true).settle < 16 ∧ 3998 + 1 < 4000 ∧ (k 3998 0 true).targetNow =
        (k 3998 0 true).targetFinal) ∧
     (k 3998 0 false).targetNow ≠ (k 3998 0 false).targetFinal ∧ 16 ≤ (k 3999 15 true).settle) ∧
    (2 ^ 5 ≤ Profile.default.avgCount ∧ Profile.default.avgCount < 2 ^ 6 ∧
      Profile.default.settleCount = 16 ∧ Profile.default.settleTimeout = 4000) ∧
    ((settling (jog .settle) 0 15 true false).profile.patternLoop = .off ∧
      (settling (jog .settle) 0 15 true true).profile.patternLoop = .internal ∧
      (∀ h a, (offset .settle).job ≠ .jog h a) ∧ (jog (.settleAt 8)).job = .jog 1 0) ∧
    (let z := jobZone (jog (.settleAt 8)).job ((at1 (settling (jog (.settleAt 8)) 0 15 true true)).ctx .bay1)
     7 + 1 < z.positions ∧ z.positions ≤ 8 + 1) := by
  refine ⟨by decide, by decide, by decide, ⟨by decide, by decide, fun h a => ?_, by decide⟩, by decide⟩
  simp [offset, Work.fresh]

/-- An OFFSET step of head 2 and zone 0 in RETURN whose windows gave `ref` and `head`, or a kept cause. -/
def measured (ref head : WindowResult) (cause : Option Cause) : Work :=
  ⟨.offset 2 0, .retHead, some 9, none, some ref, some head, cause, [], none⟩

/-- A bay in that phase, held by HOST, its entry marked or not. -/
def measuring (w : Work) (marked : Bool) : Bay :=
  let y := sweeping w
  { y with
    ctrl := { y.ctrl with frozen := true }
    map := mapPut y.map 2 0 ⟨marked, none, none⟩
    sweep := { y.sweep with holds := ⟨true, false, false, false, false⟩, seqNext := 65535 } }

theorem witness_OffsetStepsAreWritten_returns :
    let ref : WindowResult := ⟨409600, 410, 600⟩
    let heads : List WindowResult := [⟨410050, 410, 512⟩, ⟨410050, 411, 512⟩, ⟨410050, 410, 511⟩,
      ⟨442368, 410, 512⟩, ⟨376832, 411, 511⟩]
    let s (w : Work) (marked : Bool) : State := flying clean (at1 (measuring w marked))
    (∀ head ∈ heads, ∀ cause ∈ [none, some Cause.noServo],
      let w := measured ref head cause
      w.phase = .retHead ∧ w.job = .offset 2 0 ∧ w.cause = cause ∧ w.refResult = some ref ∧
        w.headResult = some head) ∧
    (∀ head ∈ heads, ∀ q ∈ [((none : Option Cause), false), (none, true), (some .noServo, false)],
      let w := measured ref head q.1
      let x := measuring w q.2
      (s w q.2).demod.busy = some (.bay1, clean) ∧
        (classify clean ((s w q.2).ctx .bay1)).2.cls = .position ∧ x.ctrl.state = .sweep ∧
        x.ctrl.switchWait = 0 ∧ x.ctrl.selHead = x.ctrl.loopHead ∧ x.ctrl.frozen = true ∧
        x.ctrl.watch = none ∧ x.sweep.work = some w ∧ x.sweep.seqNext < 65536 ∧
        (mapGet x.map 2 0).accepted = q.2 ∧
        (classify clean ((s w q.2).ctx .bay1)).1.bay.sweep.holds.isEmpty = false) := by decide

theorem witness_WindowsCollect :
    let at' (pos : Int) : Sample := ⟨.position, 2, false, some 9, some .one, some pos⟩
    let samples : List Sample :=
      [at' (-3), ⟨.noSync, 2, false, none, none, none⟩, at' 70000, ⟨.weak, 2, false, some 3, none, none⟩,
        { at' 5 with head := 1 }, at' 4, at' 4]
    (∀ y ∈ samples, y.cls = .position → y.position ≠ none) ∧ 0 < 4 ∧
    (samples.filterMap fun y =>
      if y.head = 2 ∧ y.cls = .position then y.position.map fun pos => (pos, y.burstSum.getD 0)
      else none).length = 4 := by decide

/-- A bay that averages on head 0, the reference head being `ref`, with a window `win` open. -/
def averaging (p : Phase) (ref : Nat) (win : Window) : Bay :=
  let y := sweeping (offset p)
  { y with
    profile := { y.profile with refHead := ref }
    meas := { y.meas with window := some win }
    sweep := { y.sweep with holds := ⟨true, false, false, false, false⟩ } }

theorem witness_WindowsEnd :
    let win (collected delivered : Nat) : Window := ⟨0, 4, collected, 0, none, 0, delivered, true⟩
    (∀ q ∈ [(clean, win 2 5), (clean, win 2 79), (clean, win 3 5), (clean, win 3 79),
        (noSync, win 3 78), (noSync, win 3 79), (noSync, win 0 79)],
      ∀ z ∈ [(Phase.refAvg, 0), (.headAvg, 3)],
        let w := offset z.1
        let x := averaging z.1 z.2 q.2
        let s := flying q.1 (at1 x)
        s.demod.busy = some (.bay1, q.1) ∧ x.ctrl.state = .sweep ∧ x.ctrl.switchWait = 0 ∧
          x.ctrl.watch = none ∧ x.sweep.work = some w ∧ w.phase = z.1 ∧ w.job = .offset 2 0 ∧
          x.meas.window = some q.2 ∧ x.acq.loss + 1 < lossThreshold x.profile ∧
          2 ≠ x.ctrl.selHead ∧ (z.1 = .headAvg → x.ctrl.selHead ≠ x.profile.refHead) ∧
          (mapGet x.map 2 0).accepted = false ∧ x.sweep.seqNext < 65536 ∧
          (classify q.1 (s.ctx .bay1)).1.bay.sweep.holds.isEmpty = false) ∧
    (let after (w : Wedge) (b : Window) : Window :=
       b.deliver.collect (classify w ((flying w (at1 (averaging .refAvg 0 b))).ctx .bay1)).2
     ((after clean (win 2 5)).collected = 3 ∧ (after clean (win 2 5)).delivered < 4 * 4 + 64) ∧
     ((after noSync (win 3 78)).collected = 3 ∧ (after noSync (win 3 78)).delivered < 4 * 4 + 64) ∧
     4 ≤ (after clean (win 3 5)).collected ∧ 4 ≤ (after clean (win 3 79)).collected ∧
     ((after clean (win 2 79)).collected < 4 ∧ 4 * 4 + 64 ≤ (after clean (win 2 79)).delivered) ∧
     ((after noSync (win 3 79)).collected < 4 ∧ 4 * 4 + 64 ≤ (after noSync (win 3 79)).delivered)) ∧
    (let x := averaging .refAvg 0 (win 3 79)
     let marked : Bay := { x with map := mapPut x.map 2 0 ⟨true, none, none⟩ }
     let w := Work.fresh (.visit .planned) .refAvg
     let visits : Bay := { x with
       meas := { x.meas with failedVisits := 1 }, sweep := { x.sweep with work := some w } }
     (mapGet marked.map 2 0).accepted = true ∧ marked.sweep.work = some (offset .refAvg) ∧
       (offset .refAvg).job = .offset 2 0 ∧ visits.sweep.work = some w ∧ w.phase = .refAvg ∧
       w.job = .visit .planned ∧ visits.meas.failedVisits + 1 < 3) := by
  decide

theorem witness_ServoLossInSweep :
    (∀ retry ∈ [0, 2, 3],
      (∀ w ∈ [offset .retHead, jog .loopSwitchOut, jog .loopSwitchBack],
        let x0 := sweeping w
        let x : Bay := { x0 with sweep := { x0.sweep with retry := retry, phaseLimit := 3999 } }
        (flying noSync (at1 x)).demod.busy = some (.bay1, ⟨0, none⟩) ∧ x.ctrl.state = .sweep ∧
          x.ctrl.switchWait = 0 ∧ x.ctrl.selHead = x.ctrl.loopHead ∧
          x.acq.loss + 1 < lossThreshold x.profile ∧ x.ctrl.watch = none ∧ x.sweep.work = some w ∧
          x.sweep.active = true ∧ x.profile.settleTimeout ≤ x.sweep.phaseLimit + 1) ∧
      (∀ x0 ∈ [sweeping (offset .settle), heldBy ⟨true, false, false, false, false⟩ Thermal.reset],
        let x : Bay := { x0 with
          acq := { Acq.reset with loss := 23 }, sweep := { x0.sweep with retry := retry } }
        (flying noSync (at1 x)).demod.busy = some (.bay1, ⟨0, none⟩) ∧
          (x.ctrl.state = .sweep ∨ x.ctrl.state = .held) ∧ lossThreshold x.profile ≤ x.acq.loss + 1 ∧
          x.ctrl.switchWait = 0 ∧ x.ctrl.selHead = x.ctrl.loopHead ∧ x.sweep.active = true)) ∧
    (offset .retHead).phase = .retHead ∧ (jog .loopSwitchOut).phase = .loopSwitchOut ∧
    (jog .loopSwitchBack).phase = .loopSwitchBack ∧ 2 < 3 ∧ 3 ≤ 3 := by decide

/-- A FOREIGN wedge at the revolution mark, for a bay whose selected head is 1. -/
def foreignMark : WedgeSync := ⟨0, 500, 0, 500, 0, none⟩

/-- A bay in SWEEP on head 1. -/
def onHead1 (w : Work) : Bay :=
  { sweeping w with ctrl := { (sweeping w).ctrl with loopHead := 1, selHead := 1 } }

theorem witness_JogTimeouts :
    let write : Bay := { onHead1 (jog .writePass) with pattern := { Pattern.reset with write := some 7 } }
    let cap : Capture := ⟨8, 0, 3⟩
    let read : Bay := { onHead1 (jog (.read 7)) with
      pattern := { Pattern.reset with capture := some cap } }
    let y := onHead1 (jog (.settleAt 8))
    let settle : Bay := { y with ctrl := { y.ctrl with watch := some 3999 } }
    (∀ x ∈ [write, read, settle],
      (flying ⟨0, some foreignMark⟩ (at1 x)).demod.busy = some (.bay1, ⟨0, some foreignMark⟩) ∧
      0 ≠ x.ctrl.selHead ∧ x.ctrl.state = .sweep ∧ x.ctrl.switchWait = 0 ∧
      x.ctrl.selHead = x.ctrl.loopHead ∧ x.profile.refHead ≠ x.ctrl.loopHead ∧
      x.acq.loss + 1 < lossThreshold x.profile) ∧ foreignMark.index = 0 ∧
    (write.sweep.work = some (jog .writePass) ∧ (jog .writePass).phase = .writePass ∧
      (jog .writePass).job = .jog 1 0 ∧ write.ctrl.watch = none ∧ write.pattern.write = some 7 ∧
      8 ≤ 7 + 1) ∧
    (read.sweep.work = some (jog (.read 7)) ∧ (jog (.read 7)).phase = .read 7 ∧
      read.ctrl.watch = none ∧ read.pattern.capture = some cap ∧ 4 ≤ cap.revs + 1 ∧
      7 + 1 < (jobZone (jog (.read 7)).job ((at1 read).ctx .bay1)).positions) ∧
    (settle.sweep.work = some (jog (.settleAt 8)) ∧ (jog (.settleAt 8)).phase = .settleAt 8 ∧
      settle.ctrl.frozen = false ∧ 0 < settle.profile.settleCount ∧ settle.ctrl.watch = some 3999 ∧
      settle.profile.settleTimeout ≤ 3999 + 1) := by decide
/-- A JOG step interrupted on zone 0 of a head, its loop about to be acquired. -/
def acquiringJog (h : Nat) : Bay := lastSample .sweep (some (Work.fresh (.jog h 0) .interrupted)) Holds.none

theorem witness_LoopSwitchesRun_acquire : ∀ h ∈ [0, 1],
    let x := acquiringJog h
    let s := flying clean (at1 x)
    s.demod.busy = some (.bay1, clean) ∧ (classify clean (s.ctx .bay1)).2.cls = .position ∧
      (classify clean (s.ctx .bay1)).2.position = some 410112 ∧ x.ctrl.state = .acquire ∧
      x.ctrl.switchWait = 0 ∧ x.ctrl.selHead = x.ctrl.loopHead ∧
      x.sweep.work = some (Work.fresh (.jog h 0) .interrupted) ∧
      x.acq.intent = .sweep ∧ x.profile.acqCount ≤ min 255 (x.acq.run + 1) := by decide

/-- A good and a failed jog part. -/
def goodPart : JogPart := ⟨.good, none, some (0, 128), none, 1, some 9, none⟩
def badPart : JogPart := ⟨.failed, some .writeTimeout, none, none, 1, some 9, none⟩

/-- A JOG step in a LOOP_SWITCH with a part to write, at an entry marked accepted or not, held by HOST. -/
def switching (p : Phase) (part : Option JogPart) (marked : Bool) : Bay :=
  let y := sweeping { jog p with formed := part }
  { y with
    map := mapPut y.map 1 0 ⟨marked, none, none⟩
    sweep := { y.sweep with holds := ⟨true, false, false, false, false⟩ } }

theorem witness_LoopSwitchesRun_seed :
    ∀ q ∈ [(Phase.loopSwitchOut, none, false), (.loopSwitchBack, some goodPart, false),
      (.loopSwitchBack, some badPart, false), (.loopSwitchBack, some goodPart, true)],
    let x := switching q.1 q.2.1 q.2.2
    let s := flying clean (at1 x)
    let c := classify clean (s.ctx .bay1)
    s.demod.busy = some (.bay1, clean) ∧ c.2.cls = .position ∧ c.2.position = some 410112 ∧
      c.2.head = x.ctrl.loopHead ∧ x.ctrl.state = .sweep ∧ x.ctrl.watch = none ∧
      x.ctrl.frozen = false ∧ x.ctrl.targetNow = none ∧ x.ctrl.switchWait = 0 ∧
      x.ctrl.selHead = x.ctrl.loopHead ∧ x.sweep.work = some { jog q.1 with formed := q.2.1 } ∧
      (mapGet x.map 1 0).accepted = q.2.2 ∧ x.sweep.seqNext < 65536 ∧
      c.1.bay.sweep.holds.isEmpty = false := by decide

theorem witness_LoopSwitchesRun_parts : goodPart.status ≠ .failed ∧ badPart.status = .failed ∧
    badPart.cause = some .writeTimeout ∧ (jog .loopSwitchBack).job = .jog 1 0 := by decide

theorem witness_LoopSwitchesRun_limit :
    ∀ w ∈ [offset .retHead, jog .loopSwitchOut, jog .loopSwitchBack],
    let y := sweeping w
    let x : Bay := { y with sweep := { y.sweep with phaseLimit := 3998 } }
    let s := flying noSync (at1 x)
    s.demod.busy = some (.bay1, noSync) ∧ (classify noSync (s.ctx .bay1)).2.cls ≠ .position ∧
      x.ctrl.state = .sweep ∧ x.ctrl.watch = none ∧
      x.ctrl.switchWait = 0 ∧ x.ctrl.selHead = x.ctrl.loopHead ∧
      x.acq.loss + 1 < lossThreshold x.profile ∧
      x.sweep.phaseLimit + 1 < x.profile.settleTimeout ∧
      w.phase ∈ [.retHead, .loopSwitchOut, .loopSwitchBack] := by decide

/-- A JOG step of the reference head 0 on zone 0 in a phase, held by HOST. -/
def jogOfRef (p : Phase) (results : List PosResult) : Bay :=
  let y := sweeping { Work.fresh (.jog 0 0) p with results := results }
  { y with
    ctrl := { y.ctrl with targetNow := some 409600 }
    sweep := { y.sweep with holds := ⟨true, false, false, false, false⟩ } }

theorem witness_JogOfRefHeadEnds :
    let write : Bay := { jogOfRef .writePass [] with pattern := { Pattern.reset with write := some 7 } }
    let y := jogOfRef (.settleAt 8) []
    let settle : Bay := { y with ctrl := { y.ctrl with watch := some 3999 } }
    let scan (r : PosResult) : Bay := { jogOfRef (.read 8) (List.replicate 8 r) with
      pattern := { Pattern.reset with capture := some ⟨8, 7, 0⟩ } }
    let wedge : Wedge := ⟨1, some foreignMark⟩
    (∀ x ∈ [write, settle, scan .noLock, scan (.count 0)], x.ctrl.state = .sweep ∧
      x.ctrl.selHead = x.ctrl.loopHead ∧ x.profile.refHead = x.ctrl.loopHead ∧
      x.ctrl.targetNow = some 409600 ∧ (mapGet x.map 0 0).accepted = false ∧ x.sweep.seqNext < 65536 ∧
      x.sweep.holds.isEmpty = false ∧ ∃ w, x.sweep.work = some w ∧ w.job = .jog 0 0) ∧
    (∀ x ∈ [write, settle], (flying wedge (at1 x)).demod.busy = some (.bay1, wedge) ∧
      1 ≠ x.ctrl.selHead ∧ x.ctrl.switchWait = 0 ∧ x.acq.loss + 1 < lossThreshold x.profile) ∧
    (foreignMark.index = 0 ∧ write.ctrl.watch = none ∧ write.pattern.write = some 7 ∧ 8 ≤ 7 + 1 ∧
      settle.ctrl.frozen = false ∧ 0 < settle.profile.settleCount ∧ settle.ctrl.watch = some 3999 ∧
      settle.profile.settleTimeout ≤ 3999 + 1) ∧
    (∀ q ∈ [(PosResult.noLock, PartStatus.failed), (.count 0, .suspect)],
      let x := scan q.1
      let c := (at1 x).ctx .bay1
      x.pattern.capture = some ⟨8, 7, 0⟩ ∧ (feedBits [true] c).bay.sweep.holds.isEmpty = false ∧
        (jobZone (.jog 0 0) c).positions ≤ 8 + 1 ∧
        (evaluateScan x.profile (jobZone (.jog 0 0) c) (List.replicate 8 q.1 ++ [.noLock]) 1 none
          none).status = q.2) := by
  refine ⟨?_, by decide, by decide, by decide⟩
  intro x hx
  simp only [List.mem_cons, List.not_mem_nil, or_false] at hx
  rcases hx with rfl | rfl | rfl | rfl <;>
    exact ⟨rfl, rfl, rfl, rfl, by decide, by decide, by decide, _, rfl, rfl⟩

/-- A planned visit in RETURN whose windows gave `ref` and `head`. -/
def visit (ref head : WindowResult) : Work :=
  ⟨.visit .planned, .retHead, some 9, none, some ref, some head, none, [], none⟩

/-- A bay in that phase, held by HOST, with a log and a failed-visit count. -/
def returning (ref head : WindowResult) (log : List RefRecord) (failed : Nat) : Bay :=
  let y := sweeping (visit ref head)
  { y with
    ctrl := { y.ctrl with frozen := true }
    meas := { y.meas with log := log, failedVisits := failed }
    sweep := { y.sweep with holds := ⟨true, false, false, false, false⟩ } }

theorem witness_VisitEnds :
    let ref : WindowResult := ⟨409600, 410, 600⟩
    let head (mean : Int) : WindowResult := ⟨409600 + mean, 410, 512⟩
    (∀ q ∈ [((450 : Int), ([⟨3, 40, none⟩] : List RefRecord), 2), (451, [⟨3, 40, none⟩], 2),
        (32767, [], 0), (32768, [], 1), (32768, [], 2)],
      let x := returning ref (head q.1) q.2.1 q.2.2
      let w := visit ref (head q.1)
      let s := flying clean (at1 x)
      s.demod.busy = some (.bay1, clean) ∧ (classify clean (s.ctx .bay1)).2.cls = .position ∧
        x.ctrl.state = .sweep ∧ x.ctrl.switchWait = 0 ∧ x.ctrl.selHead = x.ctrl.loopHead ∧
        x.ctrl.frozen = true ∧ x.ctrl.watch = none ∧ x.sweep.work = some w ∧ w.phase = .retHead ∧
        w.job = .visit .planned ∧ w.refResult = some ref ∧ w.headResult = some (head q.1) ∧
        x.sweep.seqNext < 65536 ∧ x.sweep.measured < 65535 ∧
        (classify clean (s.ctx .bay1)).1.bay.sweep.holds.isEmpty = false ∧
        x.meas.failedVisits = q.2.2 ∧ x.meas.log = q.2.1) ∧
    (ref.spread ≤ Profile.default.spreadLimit ∧ (head 0).spread ≤ Profile.default.spreadLimit ∧
      Profile.default.amplitudeFloor ≤ (head 0).amplitude ∧ (visit ref (head 0)).cause = none) ∧
    (¬ (Profile.default.driftLimit < (450 - 40 : Int).natAbs) ∧
      Profile.default.driftLimit < (451 - 40 : Int).natAbs) ∧ ¬ ((32768 : Int) ≤ 32767) ∧
    (⟨0, 1500, none⟩ : RefRecord).seq < (⟨10, 1543, none⟩ : RefRecord).seq := by decide
/-- A bay whose visit of a kind is in RETURN, with a planned REF visit, or no plan, to follow. -/
def endsVisit (k : VisitKind) (head : WindowResult) (log : List RefRecord) (failed : Nat) (held : Bool)
    (seq : Nat) : Bay :=
  let w : Work := { visit ⟨409600, 410, 600⟩ head with job := .visit k }
  let y := sweeping w
  { y with
    ctrl := { y.ctrl with frozen := true }
    map := mapPut y.map 2 0 ⟨false, some provisional, none⟩
    meas := { y.meas with log := log, failedVisits := failed }
    sweep := { y.sweep with
      holds := { Holds.none with host := held }, seqNext := seq
      plan := if k = .closing then none else some (.probe 9 [⟨.ref, 0, 0⟩]) } }

theorem witness_VisitsGoOn :
    let good : WindowResult := ⟨409600, 410, 512⟩
    let bad : WindowResult := ⟨409600, 410, 511⟩
    let log : List RefRecord := [⟨0, 40, none⟩]
    (∀ q ∈ [(VisitKind.opening, ([] : List RefRecord)), (.onTrigger, log), (.closing, log)],
      ∀ h ∈ [good, bad], ∀ f ∈ [(0, false), (1, true), (2, true)],
        let x := endsVisit q.1 h q.2 f.1 f.2 65535
        let w : Work := { visit ⟨409600, 410, 600⟩ h with job := .visit q.1 }
        let s := flying clean (at1 x)
        (s.demod.busy = some (.bay1, clean) ∧ (classify clean (s.ctx .bay1)).2.cls = .position ∧
          (classify clean (s.ctx .bay1)).1.bay.sweep.holds.isEmpty = !f.2 ∧ x.ctrl.state = .sweep ∧
          x.ctrl.switchWait = 0 ∧ x.ctrl.selHead = x.ctrl.loopHead ∧ x.ctrl.frozen = true ∧
          x.ctrl.watch = none ∧ x.sweep.work = some w)) ∧
    (∀ q ∈ [(VisitKind.opening, ([] : List RefRecord)), (.onTrigger, log), (.closing, log)],
      let x := endsVisit q.1 good q.2 0 false 65535
      x.sweep.active = true ∧ zoneGet x.zones x.profile.refZone = some ⟨100, 512, 128⟩ ∧
        x.meas.log = q.2 ∧ x.sweep.seqNext < 65536 ∧ x.sweep.probe = none ∧ x.sweep.stack = [] ∧
        x.isDue = false ∧ anyProvisional x.map = true ∧ x.profile.refHead = x.ctrl.loopHead ∧
        x.sweep.plan = if q.1 = .closing then none else some (.probe 9 (⟨.ref, 0, 0⟩ :: []))) ∧
    (65536 ≤ (endsVisit .onTrigger good log 0 false 65536).sweep.seqNext ∧
      410 ≤ Profile.default.spreadLimit ∧ Profile.default.amplitudeFloor ≤ good.amplitude ∧
      ¬ (Profile.default.amplitudeFloor ≤ bad.amplitude) ∧ 3 ≤ 2 + 1 ∧ 1 + 1 < 3) := by decide

/-- A HELD bay with a log and no trigger due, its plan, probe and stack given. -/
def atBoundary (plan : Plan) (probe : Option (Nat × List StepRec)) (stack : List Plan) : Bay :=
  let y := heldBy ⟨true, false, false, false, true⟩ Thermal.reset
  { y with
    store := [⟨.offset, 2, 0⟩, ⟨.ref, 0, 0⟩]
    map := [(mapKey 3 0, ⟨true, none, none⟩)]
    meas := { y.meas with log := [⟨0, 40, none⟩], offsetCount := 15, elapsed := 59999 }
    sweep := { y.sweep with plan := some plan, probe := probe, stack := stack } }

theorem witness_BoundaryTakesSteps :
    let ref : StepRec := ⟨.ref, 0, 0⟩
    let three : List Plan := [.probe 1 [ref], .probe 2 [ref], .probe 3 [ref]]
    let cases : List Bay := [
      atBoundary (.base 1) (some (9, [ref])) three,
      atBoundary (.base 1) (some (9, [ref])) (three ++ [.base 0]),
      atBoundary (.base 2) (some (9, [ref])) [],
      atBoundary (.probe 9 [ref]) none [],
      atBoundary (.probe 9 []) none [.base 1],
      atBoundary (.probe 9 [⟨.jog, 3, 0⟩, ref]) none [],
      atBoundary (.base 2) none [],
      { atBoundary (.base 2) none [] with
        map := [(mapKey 2 0, ⟨false, some provisional, none⟩)] }]
    (∀ x ∈ cases, (asks 0x45 [1] (at1 x)).takes ⟨0x45, 7, [BayIx.bay1.byte]⟩ ∧
      x.sweep.active = true ∧ x.ctrl.state = .held ∧
      ({ x.sweep.holds with host := false, event := false } : Holds).isEmpty = true ∧
      x.meas.log ≠ [] ∧ x.meas.dueCount = false ∧ x.meas.dueTime = false ∧ x.meas.dueTemp = false ∧
      x.meas.offsetCount < x.profile.revisitCount ∧ x.meas.elapsed < x.profile.revisitMs ∧
      x.thermal.temp = none ∧ zoneGet x.zones x.profile.refZone = some ⟨524287, 512, 128⟩ ∧
      x.sweep.seqNext < 65536 ∧ x.sweep.skipped < 65535 ∧ x.store.length = 2 ∧
      x.store[1]? = some ref ∧ x.ctrl.loopHead = x.profile.refHead ∧
      x.ctrl.selHead = x.profile.refHead) ∧ ref.kind = .ref ∧ three.length < 4 ∧
    (∀ x ∈ cases.drop 3, x.sweep.probe = none) ∧
    (mapGet (atBoundary (.base 2) none []).map 3 0).accepted = true ∧
    cases.map (fun x => anyProvisional x.map) =
      [false, false, false, false, false, false, false, true] := by decide
theorem witness_OffsetStepsAreWritten_taken :
    let ref : StepRec := ⟨.ref, 0, 0⟩
    let x (r : StepRec) (seq : Nat) : Bay :=
      let y := atBoundary (.probe 9 [r, ref]) none []
      { y with sweep := { y.sweep with seqNext := seq } }
    (∀ q ∈ [((⟨.offset, 0, 23⟩ : StepRec), true), (⟨.jog, 2, 23⟩, true), (⟨.offset, 4, 0⟩, true),
        (⟨.jog, 15, 0⟩, true), (⟨.offset, 0, 0⟩, false)], ∀ seq ∈ [0, 65534],
      let b := x q.1 seq
      (asks 0x45 [1] (at1 b)).takes ⟨0x45, 7, [BayIx.bay1.byte]⟩ ∧ b.canStep ⟨524287, 512, 128⟩ ∧
        b.sweep.probe = none ∧ b.sweep.plan = some (.probe 9 (q.1 :: ref :: [])) ∧ ref.kind = .ref ∧
        q.1.kind ≠ .ref ∧ (mapGet b.map q.1.head q.1.zone).accepted = false ∧ b.sweep.work = none ∧
        (q.2 = true ↔ zoneGet b.zones q.1.zone = none ∨ b.profile.headCount ≤ q.1.head) ∧
        (q.2 = false → q.1.kind = .offset ∧ q.1.head = b.profile.refHead ∧
          b.sweep.seqNext + 1 < 65536)) ∧
    (x ref 0).unit.disposition .stepFailed ≠ .hold ∧
    ({ (x ref 0).unit with dispositions := List.replicate 18 .hold } : EventUnit).disposition
      .stepFailed = .hold := by decide
theorem witness_BoundaryBeginsWork :
    let bay (r : StepRec) (now : Option Int) : Bay :=
      let y := atBoundary (.probe 9 [r]) none []
      { y with ctrl := { y.ctrl with targetNow := now } }
    (∀ r ∈ [(⟨.offset, 3, 0⟩ : StepRec), ⟨.jog, 0, 0⟩, ⟨.jog, 2, 0⟩], ∀ now ∈ [none, some (4096 : Int)],
      let x : Bay := { bay r now with map := [] }
      (asks 0x45 [1] (at1 x)).takes ⟨0x45, 7, [BayIx.bay1.byte]⟩ ∧ x.canStep ⟨524287, 512, 128⟩ ∧
        x.sweep.probe = none ∧ x.sweep.plan = some (.probe 9 (r :: [])) ∧
        (mapGet x.map r.head r.zone).accepted = false ∧
        zoneGet x.zones r.zone = some ⟨524287, 512, 128⟩ ∧ r.head < x.profile.headCount ∧
        x.ctrl.selHead = x.ctrl.loopHead ∧ x.ctrl.targetNow = now) ∧
    (0 = Profile.default.refHead ∧ 3 ≠ Profile.default.refHead ∧ 0 = Ctrl.reset.loopHead) ∧
    (let x0 := bay ⟨.ref, 0, 0⟩ none
     let warm (t r : Int) : Bay := { x0 with
       thermal := { x0.thermal with temp := some t, lastRef := some r } }
     (∀ x ∈ [{ x0 with meas := { x0.meas with offsetCount := 16 } },
         { x0 with meas := { x0.meas with elapsed := 60000 } }, warm 106 100, warm 94 100,
         { x0 with meas := { x0.meas with dueTime := true } }],
       (asks 0x45 [1] (at1 x)).takes ⟨0x45, 7, [BayIx.bay1.byte]⟩ ∧ x.sweep.active = true ∧
         x.ctrl.state = .held ∧ x.meas.log ≠ [] ∧
         ({ x.sweep.holds with host := false, event := false } : Holds).isEmpty = true ∧
         x.isDue = true) ∧ x0.isDue = false ∧ (warm 105 100).isDue = false) := by decide

theorem witness_ScanIsEvaluated :
    let z : Zone := ⟨1000, 512, 128⟩
    let results : List PosResult := [.noLock, .count 40, .count 3, .count 2, .count 0, .count 1,
      .count 0, .count 9, .noLock]
    (∀ k, 3 ≤ k → k ≤ 6 → ∃ m, results[k]? = some (.count m) ∧ m ≤ Profile.default.passLimit) ∧
    (∀ r ∈ [PosResult.missing, .missing], r = .missing) ∧
    (∃ r ∈ [PosResult.missing, .count 3], r ≠ .missing) ∧ 0 < z.scanStep ∧
    (let w : Work := jog (.read 8)
     let x : Bay := { onHead1 w with pattern := { Pattern.reset with capture := some ⟨8, 7, 0⟩ } }
     1 ≤ [true].length ∧ [true].length ≤ 256 ∧ x.ctrl.state ≠ .offline ∧
      x.pattern.capture = some ⟨8, 7, 0⟩ ∧ x.sweep.work = some w ∧ w.phase = .read 8 ∧ 8 = 7 + 1 ∧
      (jobZone w.job ((at1 x).ctx .bay1)).positions ≤ 8 + 1 ∧ x.profile.refHead ≠ x.ctrl.loopHead ∧
      x.ctrl.selHead = x.ctrl.loopHead) := by
  refine ⟨?_, by decide, by decide, by decide, by decide⟩
  intro k h3 h6
  have : k = 3 ∨ k = 4 ∨ k = 5 ∨ k = 6 := by omega
  rcases this with rfl | rfl | rfl | rfl <;> exact ⟨_, rfl, by decide⟩

/-- The results of section 6.4.2's worked scan. -/
def worked : List PosResult := [.noLock, .count 40, .count 3, .count 0, .count 0, .count 1, .count 0,
  .count 9, .noLock]

theorem worked_passes (k : Nat) :
    (∃ m, worked[k]? = some (.count m) ∧ m ≤ Profile.default.passLimit) ↔ 2 < k ∧ k < 7 := by
  match k with
  | 0 | 1 | 2 | 3 | 4 | 5 | 6 | 7 | 8 => simp [worked, Profile.default]
  | n + 9 => simp [worked]

/-- Its best run is positions 3 to 6, as the section says. -/
theorem witness_ScanIsEvaluated_best :
    let passes (k : Nat) : Prop := ∃ m, worked[k]? = some (.count m) ∧ m ≤ Profile.default.passLimit
    let run (a b : Nat) : Prop := a ≤ b ∧ (∀ k, a ≤ k → k ≤ b → passes k) ∧
      (a = 0 ∨ ¬ passes (a - 1)) ∧ ¬ passes (b + 1)
    run 3 6 ∧ ∀ c d, run c d → c = 3 ∧ d = 6 := by
  simp only [worked_passes]
  refine ⟨⟨by omega, fun k _ _ => by omega, by omega, by omega⟩, ?_⟩
  rintro c d ⟨hcd, all, lo, hi⟩
  have := all c (by omega) hcd
  have := all d hcd (by omega)
  omega

/-! ### Witnesses: requests to a bay -/

/-- The bay with its sweep active. -/
def active (x : Bay) : Bay := { x with sweep := { x.sweep with active := true } }

theorem witness_BayPowerSwitches :
    (asks 0x10 [1, 1] (at1 follow)).takes ⟨0x10, 7, [BayIx.bay1.byte, 1]⟩ ∧
    (asks 0x10 [1, 1] State.reset).takes ⟨0x10, 7, [BayIx.bay1.byte, 1]⟩ ∧
    (asks 0x10 [1, 0] (at1 follow)).takes ⟨0x10, 7, [BayIx.bay1.byte, 0]⟩ ∧
    (asks 0x10 [1, 0] (at1 (active follow))).takes ⟨0x10, 7, [BayIx.bay1.byte, 0]⟩ ∧
    (asks 0x10 [1, 0] State.reset).takes ⟨0x10, 7, [BayIx.bay1.byte, 0]⟩ ∧
    follow.ctrl.state ≠ .offline ∧ follow.sweep.active = false ∧ (active follow).sweep.active = true ∧
    (State.reset.bays.get .bay1).ctrl.state = .offline := by decide

/-- Whether a MOVE of bay 1 is taken and passes the checks of R47. -/
def moves (x : Bay) (head track : Nat) (offset : Int) : Bool :=
  decide ((asks 0x11 (moveBody .bay1 head track offset) (at1 x)).takes
    ⟨0x11, 7, moveBody .bay1 head track offset⟩) &&
  decide (head < x.profile.headCount ∧ track ≤ 524287 ∧ -2048 ≤ (track : Int) * 4096 + offset ∧
    (track : Int) * 4096 + offset ≤ 2147481600)

theorem witness_MoveNamesTarget :
    (moves (bayIn .idle) 3 0 (-2048) = true ∧ (bayIn .idle).ctrl.state = .idle ∧
      3 ≠ (bayIn .idle).ctrl.selHead) ∧
    (moves (bayIn .acquire) 0 524287 2048 = true ∧ (bayIn .acquire).ctrl.state = .acquire ∧
      (bayIn .acquire).acq.intent = .follow ∧ 0 = (bayIn .acquire).ctrl.selHead) ∧
    (moves follow 0 0 32767 = true ∧ follow.ctrl.state = .follow ∧ 0 = follow.ctrl.selHead ∧
      0 = follow.ctrl.loopHead) ∧
    (∀ x ∈ [follow, bayIn .acquire], moves x 3 524287 2048 = true ∧ 3 ≠ x.ctrl.selHead ∧
      x.ctrl.selHead = x.ctrl.loopHead ∧ (x.ctrl.state = .follow ∨
        (x.ctrl.state = .acquire ∧ x.acq.intent = .follow))) ∧
    (moves (bayIn .fault) 0 0 0 = true ∧
      (bayIn .fault).ctrl.state ∈ [BayState.sweep, .held, .fault, .offline]) ∧
    (∀ o ∈ [(-2049 : Int)], moves follow 0 0 o = false) ∧
    (asks 0x11 (moveBody .bay1 0 0 (-2049)) (at1 follow)).takes
      ⟨0x11, 7, moveBody .bay1 0 0 (-2049)⟩ ∧
    ¬ (4 < follow.profile.headCount) := by decide

theorem witness_StopAndClear :
    (∀ st ∈ [BayState.follow, .acquire, .idle, .held, .fault],
      (asks 0x12 [1] (at1 (bayIn st))).takes ⟨0x12, 7, [BayIx.bay1.byte]⟩ ∧
      (asks 0x13 [1] (at1 (bayIn st))).takes ⟨0x13, 7, [BayIx.bay1.byte]⟩ ∧
      (bayIn st).ctrl.state = st ∧ (bayIn st).acq.intent = .follow ∧
      ¬ ((bayIn st).thermal.cutoff = true ∨
        ((bayIn st).thermal.line = true ∧ (bayIn st).profile.faultLineAction = .cutoff))) ∧
    (let x : Bay := { bayIn .fault with thermal := { Thermal.reset with line := true } }
     x.ctrl.state = .fault ∧
      (x.thermal.cutoff = true ∨ (x.thermal.line = true ∧ x.profile.faultLineAction = .cutoff))) := by
  decide

/-- Whether a BAY_PROFILE of bay 1 is taken. -/
def profiles (pairs : List (Nat × Int)) (x : Bay) : Bool :=
  decide ((asks 0x03 (profileBody .bay1 pairs) (at1 x)).takes ⟨0x03, 7, profileBody .bay1 pairs⟩)

theorem witness_BayProfileChecks :
    (profiles [(37, 0)] follow = true ∧ 36 < 37) ∧
    (profiles [(4, 33)] follow = true ∧ ∃ vs, enumValues 4 = some vs ∧ (33 : Int) ∉ vs) ∧
    profiles [] follow = true ∧
    (profiles [(36, 5)] follow = true ∧ follow.ctrl.state ∉ [BayState.offline, .idle, .fault]) ∧
    (profiles [(4, 64)] (bayIn .idle) = true ∧ enumValues 4 = some [32, 64] ∧
      (bayIn .idle).ctrl.state ∈ [BayState.idle, .fault]) := by
  refine ⟨by decide, ⟨by decide, [32, 64], by decide⟩, by decide, by decide, by decide⟩
theorem witness_BayProfileStores :
    let lists : List (List (Nat × Int)) := [[(36, -32767)], [(36, 32768)], [(0, 0), (0, 16)],
      [(33, 601), (31, -161), (31, 596)], [(35, 2), (34, 0)], [(33, 100), (33, 300), (10, 0), (10, 0)]]
    let warm (st : BayState) (v : Int) (hold cutoff : Bool) : Bay := { bayIn st with
      thermal := { Thermal.reset with temp := some v, hold := hold, cutoff := cutoff } }
    profiles [] follow = true ∧
    (∀ l ∈ lists, l.length ≤ 203 ∧ l ≠ [] ∧ profiles l Bay.reset = true ∧
      ∀ q ∈ l, q.1 ≤ 36 ∧ q.1 ≠ 4 ∧ (enumValues q.1).all (fun vs => vs.contains q.2) = true ∧
        -2147483648 ≤ q.2 ∧ q.2 < 2147483648) ∧
    (∀ l ∈ lists, ∀ st ∈ [BayState.idle, .fault], ∀ v ∈ [(-160 : Int), 207, 220, 259, 260, 600],
      ∀ h ∈ [(false, false), (true, false), (true, true)],
        let x := warm st v h.1 h.2
        profiles l x = true ∧ x.ctrl.state = st ∧ x.sweep.active = false ∧ x.profile.holdTemp ≤ 596 ∧
          x.ctrl.selHead = x.ctrl.loopHead ∧ x.thermal.temp = some v) ∧
    (Bay.reset.ctrl.state = .offline ∧ Bay.reset.ctrl.command = 0 ∧ Bay.reset.thermal.temp = none ∧
      Bay.reset.profile.holdTemp ≤ 596) := by decide +kernel

/-! ### Witnesses: the Head Map, the log and the counters -/

theorem witness_MapIsReadMarkedAndCleared_read :
    (asks 0x20 [1, 15, 0, 23] (at1 follow)).takes
      ⟨0x20, 7, [BayIx.bay1.byte, BitVec.ofNat 8 15, BitVec.ofNat 8 0, BitVec.ofNat 8 23]⟩ ∧
    (asks 0x20 [1, 16, 0, 0] (at1 follow)).takes
      ⟨0x20, 7, [BayIx.bay1.byte, BitVec.ofNat 8 16, BitVec.ofNat 8 0, BitVec.ofNat 8 0]⟩ := by decide

/-- All 384 entries. -/
def whole : MapRange := ⟨0, 15, 0, 23⟩

/-- A range whose last head is out of range. -/
def tooFar : MapRange := ⟨0, 16, 0, 23⟩

theorem witness_MapIsReadMarkedAndCleared_marks :
    ((asks 0x21 (rangeBody .bay1 whole) (at1 follow)).takes ⟨0x21, 7, rangeBody .bay1 whole⟩ ∧
      (asks 0x21 (rangeBody .bay1 tooFar) (at1 follow)).takes ⟨0x21, 7, rangeBody .bay1 tooFar⟩ ∧
      whole.head0 ≤ whole.head1 ∧ whole.head1 ≤ 15 ∧ whole.zone0 ≤ whole.zone1 ∧ whole.zone1 ≤ 23 ∧
      ¬ tooFar.head1 ≤ 15 ∧ follow.tablesLaw) ∧
    (∀ o ∈ [0, 1, 2],
      (asks 0x22 (rangeBody .bay1 whole ++ [BitVec.ofNat 8 o]) (at1 follow)).takes
        ⟨0x22, 7, rangeBody .bay1 whole ++ [BitVec.ofNat 8 o]⟩ ∧
      (asks 0x22 (rangeBody .bay1 tooFar ++ [BitVec.ofNat 8 o]) (at1 follow)).takes
        ⟨0x22, 7, rangeBody .bay1 tooFar ++ [BitVec.ofNat 8 o]⟩) ∧
    follow.sweep.active = false ∧ (active follow).sweep.active = true := by decide
theorem witness_RefLogAndCounters :
    ((asks 0x28 [1] (at1 follow)).takes ⟨0x28, 7, [BayIx.bay1.byte]⟩ ∧
      (asks 0x28 [4] (at1 follow)).takes ⟨0x28, 7, [4]⟩ ∧ 3 < (4 : Byte).toNat ∧
      (asks 0x28 [] (at1 follow)).takes ⟨0x28, 7, []⟩ ∧ ([] : List Byte).length ≠ 1) ∧
    (∀ v ∈ [BayIx.bay1.byte, (3 : Byte), 0xFF, 4], ∀ o ∈ [0, 1, 2, 3],
      (asks 0x30 [v, BitVec.ofNat 8 o] (at1 follow)).takes ⟨0x30, 7, [v, BitVec.ofNat 8 o]⟩) ∧
    (3 : Byte).toNat ≤ 3 ∧ (4 : Byte) ≠ 0xFF := by decide
theorem witness_SelfCheckFlipsOneBit :
    (asks 0x31 [1] (at1 follow)).takes ⟨0x31, 7, [BayIx.bay1.byte]⟩ ∧
    (let c := ctx0
     4 ≤ c.bay.profile.writeBlocks ∧ 64 < c.bay.profile.writeBlocks * 256 ∧
      c.bay.profile.patternLoop = .off ∧
      { c.bay.profile with patternLoop := .internal }.patternLoop = .internal) := by decide

/-! ### Witnesses: zones, steps, sweeps and events -/

theorem witness_ZonesAndStepsAreStored_zones :
    (asks 0x40 (zoneDefineBody .bay1 23 524287 65535 0) (at1 follow)).takes
      ⟨0x40, 7, zoneDefineBody .bay1 23 524287 65535 0⟩ ∧
    (asks 0x40 (zoneDefineBody .bay1 24 0 0 0) (at1 follow)).takes
      ⟨0x40, 7, zoneDefineBody .bay1 24 0 0 0⟩ ∧
    (asks 0x40 [1, 23, 1] (at1 follow)).takes ⟨0x40, 7, [BayIx.bay1.byte, BitVec.ofNat 8 23, 1]⟩ ∧
    (asks 0x40 [1, 24, 1] (at1 follow)).takes ⟨0x40, 7, [BayIx.bay1.byte, BitVec.ofNat 8 24, 1]⟩ ∧
    follow.sweep.active = false ∧ (active follow).sweep.active = true ∧ follow.tablesLaw := by decide

/-- A step list of `n` visits, each with the greatest head and zone. -/
def visits (n : Nat) : List StepRec := List.replicate n ⟨.ref, 15, 23⟩

/-- Its raw records. -/
def rawVisits (n : Nat) : List RawStep := List.replicate n ⟨2, 15, 23⟩

theorem witness_ZonesAndStepsAreStored_steps :
    (∀ n ∈ [0, 8, 9],
      ((visits n).map fun r => (⟨r.kind.code, r.head, r.zone⟩ : RawStep)) = rawVisits n ∧
      (asks 0x41 (stepListBody .bay1 0 (rawVisits n)) (at1 follow)).takes
        ⟨0x41, 7, stepListBody .bay1 0 (rawVisits n)⟩ ∧
      (asks 0x41 (stepListBody .bay1 1 (rawVisits n)) (at1 follow)).takes
        ⟨0x41, 7, stepListBody .bay1 1 (rawVisits n)⟩ ∧
      (asks 0x42 (stepListBody .bay1 255 (rawVisits n)) (at1 (active follow))).takes
        ⟨0x42, 7, stepListBody .bay1 255 (rawVisits n)⟩ ∧
      (∀ r ∈ visits n, r.head ≤ 15 ∧ r.zone ≤ 23)) ∧
    (let x : Bay := { follow with store := visits 120 }
     x.store.length + (visits 8).length ≤ 128 ∧ 128 < x.store.length + (visits 9).length) ∧
    128 < (visits 129).length ∧ follow.sweep.active = false ∧ (active follow).sweep.active = true ∧
    (active follow).sweep.probe = none ∧ ¬ (∀ r ∈ [(⟨.ref, 16, 0⟩ : StepRec)], r.head ≤ 15 ∧ r.zone ≤ 23) := by
  decide +kernel

/-- A bay ready for SWEEP_START. -/
def ready (st : BayState) : Bay :=
  { bayIn st with zones := [(0, some ⟨524287, 512, 128⟩)], store := visits 1 }

theorem witness_SweepStartBegins :
    (∀ st ∈ [BayState.idle, .follow, .held],
      (asks 0x43 [1] (at1 (ready st))).takes ⟨0x43, 7, [BayIx.bay1.byte]⟩ ∧
      (ready st).ctrl.state = st) ∧
    (let x := ready .follow
     x.store ≠ [] ∧ zoneGet x.zones x.profile.refZone = some ⟨524287, 512, 128⟩ ∧
      x.profile.refHead ≠ x.profile.driftHead ∧ x.profile.refHead < x.profile.headCount ∧
      x.profile.driftHead < x.profile.headCount ∧ x.profile.refHead = x.ctrl.loopHead ∧
      x.profile.refHead = x.ctrl.selHead ∧
      (⟨false, x.thermal.hold, x.thermal.stale,
        x.thermal.line && decide (x.profile.faultLineAction = .hold), false⟩ : Holds).isEmpty = true) ∧
    (⟨false, true, false, false, false⟩ : Holds).isEmpty = false ∧
    ¬ ((bayIn .idle).store ≠ []) := by decide

/-- A HELD bay with hold causes. -/
def holding (h : Holds) : Bay :=
  { active (ready .held) with sweep := { (active (ready .held)).sweep with holds := h } }

theorem witness_HoldAndResume :
    (∀ x ∈ [follow, active follow, holding ⟨true, false, false, false, true⟩,
        holding ⟨true, true, false, false, false⟩],
      (asks 0x44 [1] (at1 x)).takes ⟨0x44, 7, [BayIx.bay1.byte]⟩ ∧
      (asks 0x45 [1] (at1 x)).takes ⟨0x45, 7, [BayIx.bay1.byte]⟩) ∧
    follow.sweep.active = false ∧ (active follow).sweep.active = true ∧
    (active follow).ctrl.state ≠ .held ∧
    (let x := holding ⟨true, true, false, false, false⟩
     ({ x.sweep.holds with host := false, event := false } : Holds).isEmpty = false) ∧
    (let x := holding ⟨true, false, false, false, true⟩
     x.sweep.active = true ∧ x.ctrl.state = .held ∧
      ({ x.sweep.holds with host := false, event := false } : Holds).isEmpty = true ∧
      x.meas.log = [] ∧ zoneGet x.zones x.profile.refZone = some ⟨524287, 512, 128⟩) := by decide
theorem witness_SweepAbortEnds :
    (asks 0x46 [1] (at1 follow)).takes ⟨0x46, 7, [BayIx.bay1.byte]⟩ ∧ follow.sweep.active = false ∧
    (∀ q ∈ [(sweeping (offset .settle), BayState.sweep),
        (heldBy ⟨true, false, false, false, false⟩ Thermal.reset, .held),
        (lastSample .sweep none Holds.none, .acquire)],
      ∀ resolved ∈ [true, false], ∀ head ∈ [0, 1],
        let x : Bay := { q.1 with
          counter := ⟨400, some .one, resolved, none, none⟩
          ctrl := { q.1.ctrl with selHead := head, loopHead := head } }
        (asks 0x46 [1] (at1 x)).takes ⟨0x46, 7, [BayIx.bay1.byte]⟩ ∧ x.sweep.active = true ∧
          x.ctrl.state = q.2 ∧ x.counter.resolved = resolved ∧
          (x.ctrl.selHead = x.profile.refHead ↔ head = 0)) := by decide

theorem witness_StatusReadsThenClears :
    (asks 0x50 (statusBody .bay1 0x83FFFF) (at1 follow)).takes
      ⟨0x50, 7, statusBody .bay1 0x83FFFF⟩ ∧
    (asks 0x50 (statusBody .bay1 0x040000) (at1 follow)).takes
      ⟨0x50, 7, statusBody .bay1 0x040000⟩ ∧
    (∀ k ∈ [18, 19, 20, 21, 22], (0x83FFFF : Nat).testBit k = false) ∧
    (0x040000 : Nat).testBit 18 = true := by decide
theorem witness_EventRouteApplies :
    (asks 0x51 (routeBody .bay1 [(10, 2), (17, 2), (17, 0)]) (at1 follow)).takes
      ⟨0x51, 7, routeBody .bay1 [(10, 2), (17, 2), (17, 0)]⟩ ∧
    (asks 0x51 (routeBody .bay1 [(18, 0)]) (at1 follow)).takes ⟨0x51, 7, routeBody .bay1 [(18, 0)]⟩ ∧
    (∀ q ∈ [(10, 2), (17, 2), (17, 0)], q.1 ≤ 17 ∧ q.2 ≤ 2) ∧ ¬ (18 ≤ 17) ∧
    follow.unit.dispositions.length = 18 := by decide

end Sys2Proof.Tests
end

namespace Sys2Proof.Machine

/-! SUPPORT. Burst demodulation and the position counter (chapter 1): what a wedge's bursts give, what the
step and the resynchronisation do to an unresolved and to a resolved counter, and statements O27 and O28. -/

/-! ### What a wedge's bursts give (R1 to R4) -/

section
variable (c : Ctx) (y : WedgeSync)

theorem classify_of_noSync {w : Wedge} (hsync : w.sync = none) :
    classify w c = (c, ⟨.noSync, w.head, false, none, none, none⟩) := by
  simp [classify, hsync]

theorem classify_of_foreign {w : Wedge} (hsync : w.sync = some y) (hhead : w.head ≠ c.bay.ctrl.selHead) :
    classify w c = (c, ⟨.foreign, w.head, y.index == 0, none, none, none⟩) := by
  simp [classify, hsync, hhead]

theorem classify_of_weak {w : Wedge} (hsync : w.sync = some y) (hhead : w.head = c.bay.ctrl.selHead)
    (hden : WedgeSync.den y < c.bay.profile.minSum) :
    classify w c = (c, ⟨.weak, w.head, y.index == 0, some (WedgeSync.den y), none, none⟩) := by
  simp [classify, hsync, hhead, hden]

/-- A sync wedge of the selected head with enough burst sum reaches the counter. -/
theorem classify_eq_placeWedge (hden : c.bay.profile.minSum ≤ WedgeSync.den y) :
    classify ⟨c.bay.ctrl.selHead, some y⟩ c = placeWedge c.bay.ctrl.selHead y c := by
  simp [classify, Nat.not_lt.mpr hden]

end

/-- The quadrant that a wedge's bursts give (R2). -/
def wedgeQuadrant (y : WedgeSync) : Quadrant := quadrantOf (WedgeSync.p y) (WedgeSync.q y)

/-- The offset from track centre that a wedge's bursts give (R2). -/
def wedgeOffset (y : WedgeSync) : Int :=
  trackOffset (wedgeQuadrant y) (phaseFraction (WedgeSync.q y) (WedgeSync.den y))

theorem phaseFraction_eq_div (q : Int) (den : Nat) :
    phaseFraction q den = ((q.natAbs * 1024 / den : Nat) : Int) := by
  rw [phaseFraction, truncDiv, Int.tdiv_eq_ediv_of_nonneg (by omega)]
  norm_cast

/-- The law on placed wedges: a share of the burst sum is at most the whole (R2). -/
theorem phaseFraction_bounds {q : Int} {den : Nat} (hq : q.natAbs ≤ den) :
    0 ≤ phaseFraction q den ∧ phaseFraction q den ≤ 1024 := by
  have hle : q.natAbs * 1024 / den ≤ 1024 :=
    Nat.div_le_of_le_mul (Nat.mul_le_mul_right 1024 hq)
  rw [phaseFraction_eq_div]
  exact ⟨Int.natCast_nonneg _, by exact_mod_cast hle⟩

theorem trackOffset_bounds (k : Quadrant) {t : Int} (h0 : 0 ≤ t) (h1 : t ≤ 1024) :
    -2048 ≤ trackOffset k t ∧ trackOffset k t ≤ 2048 := by
  cases k <;> simp only [trackOffset] <;> omega

theorem wedgeOffset_bounds (y : WedgeSync) : -2048 ≤ wedgeOffset y ∧ wedgeOffset y ≤ 2048 := by
  have hq : (WedgeSync.q y).natAbs ≤ WedgeSync.den y := Nat.le_add_left _ _
  obtain ⟨h0, h1⟩ := phaseFraction_bounds hq
  exact trackOffset_bounds (wedgeQuadrant y) h0 h1

/-! ### The counter's step (R11 to R14) -/

/-- The count after a step of `d` quadrants (R11). -/
def Counter.countAfter (x : Counter) (d : Nat) : Int :=
  if d = 1 then x.cq + 1 else if d = 3 then x.cq - 1 else x.cq

/-- Whether a resolved counter stays resolved at a step of `d` quadrants that leaves the count at `n`
(R12, R13). -/
def staysResolved (d : Nat) (n : Int) : Bool := decide (d = 0 ∨ (d ≠ 2 ∧ -2 ≤ n ∧ n ≤ 2097149))

/-- A resolved counter after its step from quadrant `qp` to `q`. -/
def Counter.stepped (x : Counter) (qp q : Quadrant) : Counter :=
  { x with
    cq := x.countAfter (quadrantStep qp q)
    qp := some q
    resolved := staysResolved (quadrantStep qp q) (x.countAfter (quadrantStep qp q)) }

theorem quadrantStep_lt (qp q : Quadrant) : quadrantStep qp q < 4 := Nat.mod_lt _ (by decide)

theorem Counter.step_of_unresolved {x : Counter} (h : x.resolved = false) (q : Quadrant) :
    x.step q = ({ x with qp := some q }, false) := by
  simp [Counter.step, h]

theorem Counter.step_of_resolved {x : Counter} {qp : Quadrant} (hres : x.resolved = true)
    (hqp : x.qp = some qp) (q : Quadrant) :
    x.step q = (x.stepped qp q, decide (quadrantStep qp q = 2)) := by
  have hlt := quadrantStep_lt qp q
  simp only [Counter.step, Counter.stepped, hres, hqp]
  generalize quadrantStep qp q = d at hlt
  match d, hlt with
  | 0, _ => simp [Counter.countAfter, staysResolved]
  | 1, _ => simp [Counter.countAfter, staysResolved, realCount]
  | 2, _ => simp [Counter.countAfter, staysResolved]
  | 3, _ => simp [Counter.countAfter, staysResolved, realCount]

theorem quadrantStep_ne_two_of_staysResolved {d : Nat} {n : Int} (h : staysResolved d n = true) :
    d ≠ 2 := by
  rintro rfl
  simp [staysResolved] at h

/-- Raising an event changes the bay and offers frames; nothing else of the bay at work changes (R166). -/
theorem raise_eq (d : Details) (c : Ctx) :
    raise d c = { c with
      bay := c.bay.raising d.kind
      frames := c.frames ++ c.bay.unit.offers c.id d } :=
  calc raise d c = ⟨(raise d c).id, (raise d c).bay, (raise d c).frames, (raise d c).records,
        (raise d c).notes⟩ := rfl
    _ = _ := by rw [raise_id, raise_bay, raise_frames, raise_records, raise_notes]

section
variable {c : Ctx} (head : Nat) (q : Quadrant)

theorem stepCounter_of_unresolved (h : c.bay.counter.resolved = false) :
    stepCounter head q c = c.setCounter { c.bay.counter with qp := some q } := by
  simp [stepCounter, Counter.step_of_unresolved h]

/-- A resolved counter steps; at two quadrants QUAD_JUMP is raised with it (R12). -/
theorem stepCounter_of_resolved {qp : Quadrant} (hres : c.bay.counter.resolved = true)
    (hqp : c.bay.counter.qp = some qp) :
    stepCounter head q c = if quadrantStep qp q = 2 then { c with
        bay := { c.bay with counter := c.bay.counter.stepped qp q }.raising .quadJump
        frames := c.frames ++ c.bay.unit.offers c.id (.quadJump head qp q c.bay.counter.cq) }
      else c.setCounter (c.bay.counter.stepped qp q) := by
  simp only [stepCounter, Counter.step_of_resolved hres hqp, decide_eq_true_eq, hqp, Option.getD_some,
    raise_eq]
  rfl

theorem stepCounter_counter {qp : Quadrant} (hres : c.bay.counter.resolved = true)
    (hqp : c.bay.counter.qp = some qp) :
    (stepCounter head q c).bay.counter = c.bay.counter.stepped qp q := by
  rw [stepCounter_of_resolved head q hres hqp]
  split <;> rfl

end

/-! ### Resynchronisation (R15, R16) -/

/-- The count read with the quadrant's share added to the track's count (R15). -/
theorem countRead_eq_add (t : Nat) (q : Quadrant) :
    countRead t q = 4 * t + match q with
      | .one => 0
      | .two => 1
      | .three => -2
      | .four => -1 := by
  cases q <;> simp [countRead, Int.sub_eq_add_neg]

theorem Counter.adopt_capture (x : Counter) (slip : Int) (seq track : Nat) (q : Quadrant) :
    (x.capture slip seq).adopt track q = ⟨countRead track q, some q, true, some ⟨slip, seq⟩,
      if x.latest = none then x.previous else x.latest⟩ := by
  cases h : x.latest <;> simp [Counter.capture, Counter.adopt, h]

section
variable {c : Ctx} (head : Nat) (q : Quadrant)

theorem resync_of_no_slip (track : Nat)
    (h : c.bay.counter.resolved = false ∨ countRead track q = c.bay.counter.cq) :
    resync head track q c = c.setCounter (c.bay.counter.adopt track q) := by
  have hslip : c.bay.counter.slipRead track q = none := by
    rw [Counter.slipRead, if_neg]
    rintro ⟨hres, hne⟩
    rcases h with h | h
    · simp [hres] at h
    · exact hne h
  simp [resync, hslip]

theorem resync_of_slip (track : Nat) (hres : c.bay.counter.resolved = true)
    (hne : countRead track q ≠ c.bay.counter.cq) :
    resync head track q c = { c with
      bay := { c.bay with counter := (c.bay.counter.capture (countRead track q - c.bay.counter.cq)
        (lastSeqOrZero c.bay.sweep)).adopt track q }.raising .positionSlip
      frames := c.frames ++ c.bay.unit.offers c.id
        (.positionSlip head (countRead track q - c.bay.counter.cq) (lastSeqOrZero c.bay.sweep)) } := by
  have hslip : c.bay.counter.slipRead track q = some (countRead track q - c.bay.counter.cq) := by
    rw [Counter.slipRead, if_pos ⟨hres, hne⟩]
  simp only [resync, hslip, raise_eq]
  rfl

end

/-! ### The sample of a wedge that reaches the counter (R3, R18) -/

/-- The sample of a wedge placed on track `t` (R3). -/
def placedSample (head : Nat) (y : WedgeSync) (t : Int) : Sample :=
  ⟨.position, head, y.index == 0, some (WedgeSync.den y), some (wedgeQuadrant y),
    some (t * 4096 + wedgeOffset y)⟩

/-- The sample of a wedge that passes the burst-sum test and is not placed (R4). -/
def unplacedSample (head : Nat) (y : WedgeSync) : Sample :=
  ⟨.unplaced, head, y.index == 0, some (WedgeSync.den y), some (wedgeQuadrant y), none⟩

section
variable (head : Nat) (y : WedgeSync) (c : Ctx)

theorem placeWedge_of_track {t : Nat} (ht : y.track = some t) :
    placeWedge head y c =
      (resync head t (wedgeQuadrant y) (stepCounter head (wedgeQuadrant y) c), placedSample head y t) := by
  simp only [placeWedge, ht]
  rfl

theorem placeWedge_of_no_track_resolved (ht : y.track = none)
    (hres : (stepCounter head (wedgeQuadrant y) c).bay.counter.resolved = true) :
    placeWedge head y c = (stepCounter head (wedgeQuadrant y) c,
      placedSample head y (((stepCounter head (wedgeQuadrant y) c).bay.counter.cq + 2) / 4)) := by
  unfold wedgeQuadrant at *
  simp only [placeWedge, ht, Counter.track, hres, if_true]
  rfl

theorem placeWedge_of_no_track_unresolved (ht : y.track = none)
    (hres : (stepCounter head (wedgeQuadrant y) c).bay.counter.resolved = false) :
    placeWedge head y c = (stepCounter head (wedgeQuadrant y) c, unplacedSample head y) := by
  unfold wedgeQuadrant at *
  simp only [placeWedge, ht, Counter.track, hres, Bool.false_eq_true, if_false]
  rfl

end

/-- A track number places the wedge, whatever the counter holds (R18). -/
theorem classify_sample_of_track (c : Ctx) (y : WedgeSync) (hden : c.bay.profile.minSum ≤ WedgeSync.den y)
    {t : Nat} (ht : y.track = some t) :
    (classify ⟨c.bay.ctrl.selHead, some y⟩ c).2 = placedSample c.bay.ctrl.selHead y t := by
  rw [classify_eq_placeWedge c y hden, placeWedge_of_track _ _ _ ht]

/-! ### An unresolved counter (R14) -/

section
variable (c : Ctx) (y : WedgeSync)

theorem classify_unresolved_of_no_track (hres : c.bay.counter.resolved = false)
    (hden : c.bay.profile.minSum ≤ WedgeSync.den y) (ht : y.track = none) :
    classify ⟨c.bay.ctrl.selHead, some y⟩ c =
      (c.setCounter { c.bay.counter with qp := some (wedgeQuadrant y) },
        unplacedSample c.bay.ctrl.selHead y) := by
  have hstep := stepCounter_of_unresolved c.bay.ctrl.selHead (wedgeQuadrant y) hres
  rw [classify_eq_placeWedge c y hden,
    placeWedge_of_no_track_unresolved _ _ _ ht (by rw [hstep]; exact hres), hstep]

theorem classify_unresolved_of_track (hres : c.bay.counter.resolved = false)
    (hden : c.bay.profile.minSum ≤ WedgeSync.den y) {t : Nat} (ht : y.track = some t) :
    (classify ⟨c.bay.ctrl.selHead, some y⟩ c).1 =
      c.setCounter (c.bay.counter.adopt t (wedgeQuadrant y)) := by
  have hstep := stepCounter_of_unresolved c.bay.ctrl.selHead (wedgeQuadrant y) hres
  rw [classify_eq_placeWedge c y hden, placeWedge_of_track _ _ _ ht]
  dsimp only
  rw [resync_of_no_slip _ _ _ (.inl (by rw [hstep]; exact hres)), hstep]
  rfl

end

/-- However many wedges without a track number reach an unresolved counter, none resolves or steps it. -/
theorem foldl_classify_unresolved (ys : List WedgeSync) (head : Nat) (c : Ctx)
    (hhead : head = c.bay.ctrl.selHead) (hres : c.bay.counter.resolved = false)
    (hys : ∀ y ∈ ys, y.track = none ∧ c.bay.profile.minSum ≤ WedgeSync.den y) :
    let d := ys.foldl (fun d y => (classify ⟨head, some y⟩ d).1) c
    d.bay.counter.resolved = false ∧ d.bay.counter.cq = c.bay.counter.cq ∧ d.frames = c.frames := by
  induction ys generalizing c with
  | nil => exact ⟨hres, rfl, rfl⟩
  | cons y ys ih =>
    subst hhead
    obtain ⟨ht, hden⟩ := hys y List.mem_cons_self
    simp only [List.foldl_cons, classify_unresolved_of_no_track c y hres hden ht]
    exact ih _ rfl hres fun z hz => hys z (List.mem_cons_of_mem y hz)

/-! ### A resolved counter (R11 to R13, R15, R16, R18) -/

section
variable {c : Ctx} {y : WedgeSync} {qp : Quadrant} (hres : c.bay.counter.resolved = true)
  (hqp : c.bay.counter.qp = some qp) (hden : c.bay.profile.minSum ≤ WedgeSync.den y)
include hres hqp hden

theorem classify_resolved_of_kept (ht : y.track = none)
    (hkept : (c.bay.counter.stepped qp (wedgeQuadrant y)).resolved = true) :
    classify ⟨c.bay.ctrl.selHead, some y⟩ c = (stepCounter c.bay.ctrl.selHead (wedgeQuadrant y) c,
      placedSample c.bay.ctrl.selHead y (((c.bay.counter.stepped qp (wedgeQuadrant y)).cq + 2) / 4)) := by
  have hc := stepCounter_counter c.bay.ctrl.selHead (wedgeQuadrant y) hres hqp
  rw [classify_eq_placeWedge c y hden, placeWedge_of_no_track_resolved _ _ _ ht (by rw [hc, hkept]), hc]

theorem classify_resolved_of_lost (ht : y.track = none)
    (hlost : (c.bay.counter.stepped qp (wedgeQuadrant y)).resolved = false) :
    classify ⟨c.bay.ctrl.selHead, some y⟩ c = (stepCounter c.bay.ctrl.selHead (wedgeQuadrant y) c,
      unplacedSample c.bay.ctrl.selHead y) := by
  have hc := stepCounter_counter c.bay.ctrl.selHead (wedgeQuadrant y) hres hqp
  rw [classify_eq_placeWedge c y hden, placeWedge_of_no_track_unresolved _ _ _ ht (by rw [hc, hlost])]

theorem classify_resolved_of_no_track (ht : y.track = none) :
    (classify ⟨c.bay.ctrl.selHead, some y⟩ c).1 =
      stepCounter c.bay.ctrl.selHead (wedgeQuadrant y) c := by
  cases hr : (c.bay.counter.stepped qp (wedgeQuadrant y)).resolved with
  | false => rw [classify_resolved_of_lost hres hqp hden ht hr]
  | true => rw [classify_resolved_of_kept hres hqp hden ht hr]

theorem classify_resolved_of_no_slip {t : Nat} (ht : y.track = some t)
    (hagree : (c.bay.counter.stepped qp (wedgeQuadrant y)).resolved = false ∨
      countRead t (wedgeQuadrant y) = (c.bay.counter.stepped qp (wedgeQuadrant y)).cq) :
    (classify ⟨c.bay.ctrl.selHead, some y⟩ c).1 =
      (stepCounter c.bay.ctrl.selHead (wedgeQuadrant y) c).setCounter
        (c.bay.counter.adopt t (wedgeQuadrant y)) := by
  have hc := stepCounter_counter c.bay.ctrl.selHead (wedgeQuadrant y) hres hqp
  rw [classify_eq_placeWedge c y hden, placeWedge_of_track _ _ _ ht]
  dsimp only
  rw [resync_of_no_slip _ _ _ (by rw [hc]; exact hagree), hc]
  rfl

/-- A counter that is still resolved raised no QUAD_JUMP, so a slip raises POSITION_SLIP alone (R16). -/
theorem classify_resolved_of_slip {t : Nat} (ht : y.track = some t)
    (hkept : (c.bay.counter.stepped qp (wedgeQuadrant y)).resolved = true)
    (hne : countRead t (wedgeQuadrant y) ≠ (c.bay.counter.stepped qp (wedgeQuadrant y)).cq) :
    let slip := countRead t (wedgeQuadrant y) - (c.bay.counter.stepped qp (wedgeQuadrant y)).cq
    let seq := lastSeqOrZero c.bay.sweep
    (classify ⟨c.bay.ctrl.selHead, some y⟩ c).1 = { c with
      bay := { c.bay with
        counter := ⟨countRead t (wedgeQuadrant y), some (wedgeQuadrant y), true, some ⟨slip, seq⟩,
          if c.bay.counter.latest = none then c.bay.counter.previous else c.bay.counter.latest⟩
        }.raising .positionSlip
      frames := c.frames ++ c.bay.unit.offers c.id (.positionSlip c.bay.ctrl.selHead slip seq) } := by
  intro slip seq
  have hd := quadrantStep_ne_two_of_staysResolved hkept
  rw [classify_eq_placeWedge c y hden, placeWedge_of_track _ _ _ ht,
    stepCounter_of_resolved _ _ hres hqp, if_neg hd]
  dsimp only
  rw [resync_of_slip _ _ _ hkept hne, Counter.adopt_capture]
  rfl

end

/-! ### The statements -/

/-- Settles O27: a wedge that reaches an unresolved counter records its quadrant alone, and only a track
number resolves the counter. -/
theorem unresolvedCounter : Obligations.UnresolvedCounter := by
  unfold Obligations.UnresolvedCounter
  refine ⟨?_, fun ys c hres hys => foldl_classify_unresolved ys _ c rfl hres hys⟩
  intro c head y p k q r hres hhead hden
  subst hhead
  refine ⟨fun ht => ?_, fun t ht => ?_⟩
  · have hr := classify_unresolved_of_no_track c y hres hden ht
    exact ⟨congrArg Prod.fst hr, congrArg (·.2.cls) hr⟩
  · exact ⟨congrArg Sample.cls (classify_sample_of_track c y hden ht),
      classify_unresolved_of_track c y hres hden ht⟩

/-- Settles O28: the three classes that leave the counter alone, then the step of a resolved counter, with
no track number, with one that shows no slip, and with one that shows a slip. -/
theorem resolvedCounter : Obligations.ResolvedCounter := by
  unfold Obligations.ResolvedCounter
  refine ⟨fun c w => ⟨classify_of_noSync c, fun y hsync =>
    ⟨classify_of_foreign c y hsync, classify_of_weak c y hsync⟩⟩, ?_⟩
  intro c y qp x head mark p k den q t o index d n kept stepped u r hres hqp hden
  have ho : o = wedgeOffset y := by
    simp only [o, t, wedgeOffset, phaseFraction_eq_div]
    rfl
  have hu : stepCounter head q c = u := stepCounter_of_resolved head q hres hqp
  refine ⟨ho ▸ wedgeOffset_bounds y, fun ht => ⟨?_, fun hkept => ?_, fun hlost => ?_⟩,
    fun t ht => ?_⟩
  · exact (classify_resolved_of_no_track hres hqp hden ht).trans hu
  · rw [ho]
    exact congrArg Prod.snd (classify_resolved_of_kept hres hqp hden ht hkept)
  · exact congrArg Prod.snd (classify_resolved_of_lost hres hqp hden ht hlost)
  · intro e seq
    have he : e = countRead t q := (countRead_eq_add t q).symm
    refine ⟨?_, fun hagree => ?_, fun hkept hne => ?_⟩
    · rw [ho]
      exact classify_sample_of_track c y hden ht
    · rw [he] at hagree ⊢
      rw [← hu]
      exact classify_resolved_of_no_slip hres hqp hden ht hagree
    · have hstays : u = c.setCounter (x.stepped qp q) :=
        if_neg (quadrantStep_ne_two_of_staysResolved hkept)
      rw [he] at hne
      rw [he, hstays]
      exact classify_resolved_of_slip hres hqp hden ht hkept hne

end Sys2Proof.Machine

namespace Sys2Proof.Machine

/-! SUPPORT. The wedge intake (chapter 2): what a WEDGE record does to a powered bay with room in its queue and
to one whose queue is full, and statement O17. -/

section
variable {c : Ctx} (w : Wedge)

theorem warnRises_iff (p : Profile) (q : Intake) (n : Nat) :
    warnRises p q n = true ↔ q.warn = false ∧ n = p.queueDepth - 3 := by
  simp [warnRises, warnThreshold]

/-- An arrival below depth that leaves the warn level as it is (R28, R29). -/
theorem takeWedge_of_room (hroom : c.bay.intake.queue.length < c.bay.profile.queueDepth)
    (hquiet : ¬(c.bay.intake.warn = false ∧ c.bay.intake.queue.length + 1 = c.bay.profile.queueDepth - 3)) :
    takeWedge w c = c.setIntake ⟨c.bay.intake.queue ++ [w], c.bay.intake.warn⟩ := by
  simp [takeWedge, joinQueue, warnRises_iff, hroom, hquiet]

/-- An arrival below depth at which the warn level rises (R28, R29). -/
theorem takeWedge_of_warn (hroom : c.bay.intake.queue.length < c.bay.profile.queueDepth)
    (hwarn : c.bay.intake.warn = false)
    (hthreshold : c.bay.intake.queue.length + 1 = c.bay.profile.queueDepth - 3) :
    takeWedge w c = raise (.queueWarn (c.bay.intake.queue.length + 1) c.bay.profile.queueDepth)
      (c.setIntake ⟨c.bay.intake.queue ++ [w], true⟩) := by
  simp [takeWedge, joinQueue, warnRises_iff, hroom, hwarn, hthreshold]

/-- An arrival at depth (R28). -/
theorem takeWedge_of_full (hfull : c.bay.profile.queueDepth ≤ c.bay.intake.queue.length) :
    takeWedge w c =
      raise (.queueOverrun c.bay.intake.queue.length w.head (w.sync.map fun y => y.index)) c :=
  if_neg (Nat.not_lt.mpr hfull)

end

/-- A well-formed WEDGE of a powered bay is the bay's own work (R22, R23). -/
theorem exec_wedge_of_reaches {s : State} {b : BayIx} {w : Wedge} (hwf : w.wellFormed = true)
    (hpowered : (s.bays.get b).ctrl.state ≠ .offline) :
    exec (.wedge b w) s = .next (onBay b (takeWedge w) s) := by
  have hreaches : reaches b (.wedge w) s = true := by
    simp [reaches, State.offline, InRecord.wellFormed, hwf, hpowered]
  exact congrArg Host.Outcome.next (if_pos hreaches)

/-- Settles O17: the record reaches its bay, whose intake then has room and stays quiet, or has room and
raises QUEUE_WARN with the record already joined, or is full and raises QUEUE_OVERRUN. -/
theorem wedgeArrives : Obligations.WedgeArrives := by
  unfold Obligations.WedgeArrives
  intro s b w x n joined hwf hpowered
  rw [exec_wedge_of_reaches hwf hpowered]
  refine ⟨fun hroom hquiet => ?quiet, fun hroom hwarn hthreshold => ?warn, fun hfull => ?full⟩
  case quiet =>
    have htake := takeWedge_of_room (c := s.ctx b) w hroom hquiet
    rw [onBay, htake]
    rfl
  case warn =>
    have htake := takeWedge_of_warn (c := s.ctx b) w hroom hwarn hthreshold
    rw [onBay, htake, raise_eq]
    rfl
  case full =>
    have htake := takeWedge_of_full (c := s.ctx b) w hfull
    rw [onBay, htake, raise_eq]
    rfl

end Sys2Proof.Machine

namespace Sys2Proof.Machine

/-! SUPPORT. What the laws of a bay speak of, its core, and what each shared operation leaves of it. -/

/-- The part of a bay that its laws (chapter 3, 4, 6 and 7) speak of. -/
structure Core where
  active : Bool
  work : Option Work
  seqNext : Nat
  stack : List Plan
  plan : Option Plan
  probe : Option (Nat × List StepRec)
  state : BayState
  intent : Intent
  loopHead : Nat
  selHead : Nat
  command : Int
  log : List RefRecord
  map : Table Entry
  running : Counters
  profile : Profile

/-- The core of a bay. -/
def Bay.core (x : Bay) : Core where
  active := x.sweep.active
  work := x.sweep.work
  seqNext := x.sweep.seqNext
  stack := x.sweep.stack
  plan := x.sweep.plan
  probe := x.sweep.probe
  state := x.ctrl.state
  intent := x.acq.intent
  loopHead := x.ctrl.loopHead
  selHead := x.ctrl.selHead
  command := x.ctrl.command
  log := x.meas.log
  map := x.map
  running := x.pattern.running
  profile := x.profile

/-- The core of a bay at work. -/
def Ctx.core (c : Ctx) : Core := c.bay.core

section
variable (c : Ctx)

/-! ### Readers -/

@[simp] theorem Ctx.core_active : c.core.active = c.bay.sweep.active := rfl
@[simp] theorem Ctx.core_work : c.core.work = c.bay.sweep.work := rfl
@[simp] theorem Ctx.core_state : c.core.state = c.bay.ctrl.state := rfl
@[simp] theorem Ctx.core_intent : c.core.intent = c.bay.acq.intent := rfl
@[simp] theorem Ctx.core_loopHead : c.core.loopHead = c.bay.ctrl.loopHead := rfl
@[simp] theorem Ctx.core_selHead : c.core.selHead = c.bay.ctrl.selHead := rfl
@[simp] theorem Ctx.core_command : c.core.command = c.bay.ctrl.command := rfl
@[simp] theorem Ctx.core_log : c.core.log = c.bay.meas.log := rfl
@[simp] theorem Ctx.core_map : c.core.map = c.bay.map := rfl
@[simp] theorem Ctx.core_seqNext : c.core.seqNext = c.bay.sweep.seqNext := rfl
@[simp] theorem Ctx.core_stack : c.core.stack = c.bay.sweep.stack := rfl
@[simp] theorem Ctx.core_plan : c.core.plan = c.bay.sweep.plan := rfl
@[simp] theorem Ctx.core_probe : c.core.probe = c.bay.sweep.probe := rfl
@[simp] theorem Ctx.core_running : c.core.running = c.bay.pattern.running := rfl
@[simp] theorem Ctx.core_profile : c.core.profile = c.bay.profile := rfl

/-! ### Updates that leave the core alone -/

@[simp] theorem setCounter_core (x) : (c.setCounter x).core = c.core := rfl
@[simp] theorem setIntake_core (x) : (c.setIntake x).core = c.core := rfl
@[simp] theorem setZones_core (x) : (c.setZones x).core = c.core := rfl
@[simp] theorem setStore_core (x) : (c.setStore x).core = c.core := rfl
@[simp] theorem setThermal_core (x) : (c.setThermal x).core = c.core := rfl
@[simp] theorem setUnit_core (x) : (c.setUnit x).core = c.core := rfl
@[simp] theorem send_core (x) : (c.send x).core = c.core := rfl
@[simp] theorem offer_core (x) : (c.offer x).core = c.core := rfl
@[simp] theorem note_core (x) : (c.note x).core = c.core := rfl
@[simp] theorem addCause_core (k) : (addCause k c).core = c.core := by
  unfold addCause; split <;> rfl
@[simp] theorem raise_core (d) : (raise d c).core = c.core := by
  unfold raise; split <;> simp
@[simp] theorem raise_active (d) : (raise d c).bay.sweep.active = c.bay.sweep.active :=
  congrArg Core.active (raise_core c d)
@[simp] theorem raise_work (d) : (raise d c).bay.sweep.work = c.bay.sweep.work :=
  congrArg Core.work (raise_core c d)
@[simp] theorem raise_seqNext (d) : (raise d c).bay.sweep.seqNext = c.bay.sweep.seqNext :=
  congrArg Core.seqNext (raise_core c d)
@[simp] theorem raise_stack (d) : (raise d c).bay.sweep.stack = c.bay.sweep.stack :=
  congrArg Core.stack (raise_core c d)
@[simp] theorem raise_plan (d) : (raise d c).bay.sweep.plan = c.bay.sweep.plan :=
  congrArg Core.plan (raise_core c d)
@[simp] theorem raise_probe (d) : (raise d c).bay.sweep.probe = c.bay.sweep.probe :=
  congrArg Core.probe (raise_core c d)
@[simp] theorem openWindow_core (h) : (openWindow h c).core = c.core := rfl
@[simp] theorem closeWindow_core : (closeWindow c).core = c.core := rfl
@[simp] theorem openCapture_core : (openCapture c).core = c.core := rfl
@[simp] theorem closeCapture_core : (closeCapture c).core = c.core := rfl
@[simp] theorem endWrite_core : (endWrite c).core = c.core := rfl
@[simp] theorem startPass_core : (startPass c).core = c.core := by
  unfold startPass; simp only; split <;> rfl
@[simp] theorem nameTarget_core (t) : (nameTarget t c).core = c.core := rfl
@[simp] theorem seekTarget_core (t) : (seekTarget t c).core = c.core := rfl
@[simp] theorem freeze_core : (freeze c).core = c.core := rfl
@[simp] theorem unfreeze_core : (unfreeze c).core = c.core := rfl
@[simp] theorem startLimit_core : (startLimit c).core = c.core := rfl
@[simp] theorem testTriggers_core : (testTriggers c).core = c.core := rfl
@[simp] theorem countPlanned_core (k) : (countPlanned k c).core = c.core := by
  unfold countPlanned; split <;> rfl
@[simp] theorem resync_core (h t q) : (resync h t q c).core = c.core := by
  unfold resync; split <;> simp
@[simp] theorem stepCounter_core (h q) : (stepCounter h q c).core = c.core := by
  unfold stepCounter; simp only; split <;> simp
@[simp] theorem placeWedge_core (h y) : (placeWedge h y c).1.core = c.core := by
  unfold placeWedge; simp only
  split
  · simp
  · split <;> simp
@[simp] theorem classify_core (w) : (classify w c).1.core = c.core := by
  unfold classify
  split
  · rfl
  · split
    · rfl
    · split <;> simp
@[simp] theorem watchCounts_core : (watchCounts c).1.core = c.core := by
  unfold watchCounts
  split
  · rfl
  · split
    · rfl
    · split <;> rfl
@[simp] theorem watchDiscarded_core : (watchDiscarded c).1.core = c.core := by
  unfold watchDiscarded
  split
  · rfl
  · split <;> rfl
@[simp] theorem evalCutoff_core : (evalCutoff c).core = c.core := by
  unfold evalCutoff
  split
  · rfl
  · simp only
    split
    · split <;> rfl
    · split <;> simp
@[simp] theorem becomeStale_core : (becomeStale c).core = c.core := by simp [becomeStale]
@[simp] theorem tickStale_core : (tickStale c).core = c.core := by
  unfold tickStale
  split
  · simp
  · split <;> rfl
@[simp] theorem tickRevisit_core : (tickRevisit c).core = c.core := by
  unfold tickRevisit; split <;> rfl

/-! ### Updates of one field of the core -/

@[simp] theorem setWork_core (w) : (setWork w c).core = { c.core with work := some w } := rfl
@[simp] theorem setMap_core (m) : (c.setMap m).core = { c.core with map := m } := rfl
@[simp] theorem setPattern_core (p) : (c.setPattern p).core = { c.core with running := p.running } := rfl
@[simp] theorem setMeas_core (m) : (c.setMeas m).core = { c.core with log := m.log } := rfl
@[simp] theorem setAcq_core (a) : (c.setAcq a).core = { c.core with intent := a.intent } := rfl
@[simp] theorem setProfile_core (p) : (c.setProfile p).core = { c.core with profile := p } := rfl
@[simp] theorem setCtrl_core (x) : (c.setCtrl x).core = { c.core with
    state := x.state, loopHead := x.loopHead, selHead := x.selHead, command := x.command } := rfl
@[simp] theorem setSweep_core (x) : (c.setSweep x).core = { c.core with
    active := x.active, work := x.work, seqNext := x.seqNext, stack := x.stack, plan := x.plan
    probe := x.probe } := rfl
@[simp] theorem enterAcquire_core (i) :
    (enterAcquire i c).core = { c.core with state := .acquire, intent := i } := rfl
@[simp] theorem holdBay_core : (holdBay c).core = { c.core with state := .held } := rfl
@[simp] theorem beginSeek_core (w) :
    (beginSeek w c).core = { c.core with work := some { w with phase := .seek } } := rfl
@[simp] theorem beginMove_core (w k) :
    (beginMove w k c).core = { c.core with work := some { w with phase := .move k } } := rfl
@[simp] theorem setCommand_core (v) : (setCommand v c).core = { c.core with command := v } := by
  unfold setCommand
  split
  · rename_i h
    rw [show v = c.core.command from h]
  · rfl
@[simp] theorem headSelect_core (h) : (headSelect h c).core = { c.core with selHead := h } := by
  unfold headSelect
  split
  · rename_i e
    rw [show h = c.core.selHead from e]
  · rfl
@[simp] theorem headSelect_intent (h) : (headSelect h c).bay.acq.intent = c.bay.acq.intent :=
  congrArg Core.intent (headSelect_core c h)
@[simp] theorem headSelect_state (h) : (headSelect h c).bay.ctrl.state = c.bay.ctrl.state :=
  congrArg Core.state (headSelect_core c h)
@[simp] theorem headSelect_loopHead (h) : (headSelect h c).bay.ctrl.loopHead = c.bay.ctrl.loopHead :=
  congrArg Core.loopHead (headSelect_core c h)
@[simp] theorem headSelect_selHead (h) : (headSelect h c).bay.ctrl.selHead = h :=
  congrArg Core.selHead (headSelect_core c h)
@[simp] theorem headSelect_command (h) : (headSelect h c).bay.ctrl.command = c.bay.ctrl.command :=
  congrArg Core.command (headSelect_core c h)
@[simp] theorem setLoopHead_core (h) :
    (setLoopHead h c).core = { c.core with loopHead := h, selHead := h } := by
  unfold setLoopHead
  rw [headSelect_core]
  split
  · rename_i e
    rw [show h = c.core.loopHead from e]
  · rfl
@[simp] theorem restoreRef_core : (restoreRef c).core =
    { c.core with loopHead := c.bay.profile.refHead, selHead := c.bay.profile.refHead } := by
  rw [restoreRef, setLoopHead_core]
  rfl
@[simp] theorem dropWork_core : (dropWork c).core = { c.core with work := none } := rfl

/-- The map that a sweep's end leaves (R81). -/
def endMap (o : SweepOutcome) (m : Table Entry) : Table Entry :=
  if o = .complete then m else mapProvisional OffsetPart.unclosed m

@[simp] theorem endCore_core (o) : (endCore o c).core = { c.core with
    active := false, work := none, stack := [], plan := none, probe := none
    map := endMap o c.bay.map } := by
  have hmap : (dropWork c).bay.map = c.bay.map := rfl
  have hsweep : (dropWork c).bay.sweep = { c.bay.sweep with work := none, phaseLimit := 0 } := rfl
  by_cases h : o = .complete <;> simp [endCore, endMap, h, hmap, hsweep]

end

end Sys2Proof.Machine

namespace Sys2Proof.Machine

/-! SUPPORT. The changes that the sweep engine and the bay controller make to a bay's core, one constructor of
`Turn` for each kind. Every law of a bay is proved once against these changes. -/

/-! ### What a change may rest on -/

/-- What a change may take for granted of the core it starts from: nothing; the laws that provisional parts
rest on (R72); or the laws that the two heads rest on (R57). The changes that take nothing for granted are
those of a bay that BAY_POWER does not switch: they do not enter OFFLINE. -/
inductive Mode where
  | bare | parts | heads
deriving DecidableEq

/-- Whether the bay is where an active sweep's bay is (R134). -/
def Core.sweeping (k : Core) : Prop :=
  k.state = .sweep ∨ k.state = .held ∨ (k.state = .acquire ∧ k.intent = .sweep)

/-- A sweep is active with no work in flight and the bay is not HELD: a step boundary may begin work. -/
structure Core.Ready (k : Core) (m : Mode) : Prop where
  active : m ≠ .bare → k.active = true
  idle : m = .heads → k.work = none
  moving : m = .heads → k.state ≠ .held

/-- What the laws say of where the bay is and what is in flight. -/
structure Core.Tidy (k : Core) (m : Mode) : Prop where
  sweeping : m ≠ .bare → k.sweeping → k.active = true
  working : m ≠ .bare → k.work ≠ none → k.active = true
  moving : m = .heads → k.work ≠ none → k.state ≠ .held
  logged : m = .parts → ∀ w ∈ k.work, w.job = .visit .onTrigger → k.log ≠ []

/-- Whether the work is a JOG step. -/
def Work.isJog (w : Work) : Bool :=
  match w.job with
  | .jog _ _ => true
  | .offset _ _ => false
  | .visit _ => false

/-- The phases in which work neither measures nor hands the loop back. -/
def Phase.plain (p : Phase) : Bool := !p.measuring && p != .loopSwitchBack

/-- The same work later: its job and its sequence number stand. -/
structure Work.Carries (w w' : Work) : Prop where
  job : w'.job = w.job
  seq : w'.seq = w.seq

/-- Work that may end where it is: in RETURN, or with the heads together and the loop on ref_head. -/
def Work.mayEnd (w : Work) (k : Core) : Prop :=
  w.phase = .retHead ∨ (w.phase.switched = false ∧ (w.onMeasured = true → k.loopHead = k.profile.refHead))

/-- A result that work `w` may write: only a measuring OFFSET step gives a PROVISIONAL part, with its number. -/
def StepResult.isOf (r : StepResult) (w : Work) : Prop :=
  r.provisional = true → w.isOffset = true ∧ w.phase.measuring = true ∧ ∃ x, r = .offset x ∧ x.seq = w.seq

/-- A state `st` that a change may enter, with a command that may stand there (R64). -/
structure Core.Sends (k : Core) (m : Mode) (st : BayState) (v : Int) : Prop where
  bound : v.natAbs ≤ k.profile.currentLimit ∨ v = k.command
  offline : st = .offline → v = 0
  fault : st = .fault → v = parkOutput k.profile
  powered : m = .bare → st = .offline → k.state = .offline

/-- The law of the counters (R126). -/
def Counters.lawful (r : Counters) : Prop := r.mismatches ≤ 65535 ∧ r.mismatches ≤ r.checked

/-- The law of the resume stack, plan and probe (R134, R140). -/
def Core.stackLaw (k : Core) : Prop :=
  k.stack.length ≤ Config.stackDepth ∧ (∀ p ∈ k.stack, p.stepsLeft 1 = true) ∧
    (∀ p ∈ k.plan, p.stepsLeft 0 = true) ∧ (∀ q ∈ k.probe, 1 ≤ q.2.length ∧ q.2.length ≤ Config.probeSteps)

/-- The map after a result is written, or discarded at a marked entry (R77, R79). -/
def written (m : Table Entry) (h z : Nat) (r : StepResult) : Table Entry :=
  if (mapGet m h z).accepted then m else mapPut m h z ((mapGet m h z).write r)

/-- The map after drift correction by a visit's record (R80, R102, R103). -/
def correctedMap (p : Profile) (log : List RefRecord) (r : RefRecord) (m : Table Entry) : Table Entry :=
  match log.getLast?, log.head? with
  | some a, some first =>
    mapProvisional (fun x => x.corrected (interp a r (x.seq.getD 0) - first.value) (driftExceeds p a r)) m
  | _, _ => m

/-- The core after a successful visit (R98). -/
def Core.visited (k : Core) (r : RefRecord) : Core :=
  { k with work := none, log := appendLog k.log r, map := correctedMap k.profile k.log r k.map }

/-- The core after a sweep's end, with the map, state, intent and command that it leaves (R53, R149). -/
def Core.ended (k : Core) (m : Table Entry) (st : BayState) (i : Intent) (v : Int) : Core :=
  { k with active := false, work := none, stack := [], plan := none, probe := none, map := m
           loopHead := k.profile.refHead, selHead := k.profile.refHead
           state := st, intent := i, command := v }

/-- Work that waits for reacquisition after a servo loss (R147). -/
def Work.interrupted (w : Work) : Work :=
  { Work.fresh w.job .interrupted with seq := w.seq, temp := w.temp }

/-! ### The changes -/

/-- One change of the core. -/
inductive Turn (m : Mode) (k : Core) : Core → Prop
  /-- Running counters count (R126). -/
  | counts (r : Counters) (h : k.running.lawful → r.lawful) : Turn m k { k with running := r }
  /-- The loop drives a following bay (R60). -/
  | drives (v : Int) (hs : k.state ≠ .offline ∧ k.state ≠ .fault)
      (hv : v.natAbs ≤ k.profile.currentLimit ∨ v = k.command) : Turn m k { k with command := v }
  /-- Plan, stack and pending probe move on (R139 to R141). -/
  | plans (st : List Plan) (pl : Option Plan) (pr : Option (Nat × List StepRec))
      (h : k.stackLaw → { k with stack := st, plan := pl, probe := pr }.stackLaw) :
      Turn m k { k with stack := st, plan := pl, probe := pr }
  /-- A sequence number is taken (R143). -/
  | numbers : Turn m k { k with seqNext := k.seqNext + 1 }
  /-- Work goes on in a plain phase, or begins to average, taking its number if it has none (R76, R90). -/
  | goesOn (w w' : Work) (n : Nat) (hw : k.work = some w) (hj : w'.job = w.job)
      (hs : (w'.seq = w.seq ∧ n = k.seqNext) ∨ (w'.seq = some k.seqNext ∧ n = k.seqNext + 1))
      (hp : w.phase.plain = true)
      (hp' : w'.phase.plain = true ∨ (w'.phase = .refAvg ∧ w'.seq ≠ none ∧ w.isJog = false)) :
      Turn m k { k with work := some w', seqNext := n }
  /-- A measurement goes on in SWEEP, selecting the head its phase names (R92 to R94). -/
  | measures (w w' : Work) (h : Nat) (hw : k.work = some w) (hc : w.Carries w') (hs : k.state = .sweep)
      (hp : (w.phase = .refAvg ∧ w'.phase = .switch) ∨
        (w.phase = .switch ∧ w'.phase = .headAvg ∧ h = k.selHead) ∨
        (w.phase.measuring = true ∧ w'.phase = .retHead ∧ h = k.profile.refHead)) :
      Turn m k { k with work := some w', selHead := h }
  /-- The return LOOP_SWITCH begins (R124). -/
  | handsBack (w w' : Work) (hw : k.work = some w) (hc : w.Carries w') (hp : w.phase.plain = true)
      (hp' : w'.phase = .loopSwitchBack) :
      Turn m k { k with work := some w', loopHead := k.profile.refHead, selHead := k.profile.refHead }
  /-- Work ends, its result written, or with none (R77, R100). -/
  | finishes (w : Work) (mp : Table Entry) (hw : k.work = some w) (he : w.mayEnd k)
      (hm : mp = k.map ∨ ∃ h z r, mp = written k.map h z r ∧ r.isOf w) :
      Turn m k { k with work := none, map := mp }
  /-- A step that does not measure is written (R142). -/
  | writes (h z : Nat) (r : StepResult) (hr : k.Ready m) (hp : r.provisional = false) :
      Turn m k { k with work := none, map := written k.map h z r }
  /-- A visit succeeds in RETURN (R98). -/
  | visits (w : Work) (r : RefRecord) (hw : k.work = some w) (hv : w.isVisit = true)
      (hp : w.phase = .retHead) (hr : r.seq = w.seq.getD 0) : Turn m k (k.visited r)
  /-- A successful closing visit ends the sweep (R104). -/
  | closes (w : Work) (r : RefRecord) (st : BayState) (i : Intent) (v : Int) (hw : k.work = some w)
      (hv : w.isVisit = true) (hp : w.phase = .retHead) (hr : r.seq = w.seq.getD 0)
      (hn : ¬ ((k.visited r).ended (k.visited r).map st i v).sweeping) (hd : k.Sends m st v) :
      Turn m k ((k.visited r).ended (k.visited r).map st i v)
  /-- Work begins at a boundary (R142). -/
  | begins (w : Work) (l s : Nat) (hr : k.Ready m) (hs : w.seq = none) (hp : w.phase.plain = true)
      (hl : m = .parts → w.isOffset = true ∨ w.job = .visit .onTrigger → k.log ≠ [])
      (hh : (l = k.loopHead ∧ s = k.selHead) ∨ (l = s ∧ w.isJog = true)) :
      Turn m k { k with work := some w, loopHead := l, selHead := s }
  /-- Acquisition completes into SWEEP and interrupted work begins again (R147). -/
  | restarts (w w' : Work) (l s : Nat) (hw : k.work = some w) (hc : w.Carries w') (ha : k.state = .acquire)
      (hi : k.intent = .sweep) (hp : w'.phase.plain = true)
      (hh : (l = k.loopHead ∧ s = k.selHead) ∨ (l = s ∧ w.isJog = true)) :
      Turn m k { k with state := .sweep, work := some w', loopHead := l, selHead := s }
  /-- Acquisition completes into SWEEP with none in flight (R34). -/
  | acquires (ha : k.state = .acquire) (hi : k.intent = .sweep) (hw : k.work = none) :
      Turn m k { k with state := .sweep }
  /-- The bay is HELD at a boundary (R137). -/
  | holds (hr : k.Ready m) : Turn m k { k with state := .held }
  /-- A HELD bay enters SWEEP (R146). -/
  | frees (hs : k.state = .held) : Turn m k { k with state := .sweep }
  /-- A servo loss that the sweep, if any, survives (R39, R147). -/
  | loses (v : Int) (hs : k.state.following = true)
      (hh : k.selHead = k.loopHead ∨ ∃ w, k.work = some w ∧ (w.phase = .retHead ∨ w.phase.switched = false))
      (hv : v = 0 ∨ v = k.command) :
      Turn m k { k with state := .acquire, intent := lossIntent k.state, command := v
                        work := if k.active then k.work.map Work.interrupted else k.work }
  /-- The sweep ends (R149). -/
  | ends (mp : Table Entry) (st : BayState) (i : Intent) (v : Int)
      (hm : mp = mapProvisional OffsetPart.unclosed k.map ∨ (mp = k.map ∧ anyProvisional k.map = false))
      (hn : ¬ (k.ended mp st i v).sweeping) (hv : k.Sends m st v) : Turn m k (k.ended mp st i v)
  /-- A bay without a sweep is put in another state (R45 to R50, R54). -/
  | places (st : BayState) (i : Intent) (v : Int) (l s : Nat) (hk : ¬ k.sweeping ∨ k.active = false)
      (hn : ¬ { k with state := st, intent := i, command := v, loopHead := l, selHead := s }.sweeping)
      (hv : k.Sends m st v) (hh : (l = k.loopHead ∧ s = k.selHead) ∨ l = s) :
      Turn m k { k with state := st, intent := i, command := v, loopHead := l, selHead := s }
  /-- A sweep starts (R136). -/
  | starts (st : BayState) (i : Intent) (hk : ¬ k.sweeping) (hs : k.state ≠ .offline)
      (hn : st = .sweep ∨ (st = .acquire ∧ i = .sweep)) :
      Turn m k { k with active := true, seqNext := 0, plan := some (.base 0), stack := [], probe := none
                        work := none, log := [], state := st, intent := i
                        loopHead := k.profile.refHead, selHead := k.profile.refHead }

/-- Changes one after another. -/
abbrev Turns (m : Mode) : Core → Core → Prop := Relation.ReflTransGen (Turn m)

theorem Turn.turns {m : Mode} {k k' : Core} (h : Turn m k k') : Turns m k k' := .single h

/-- Nothing changed. -/
theorem Turns.of_eq {m : Mode} {k k' : Core} (h : k' = k) : Turns m k k' := h ▸ .refl

/-- A property that each change keeps is kept by changes one after another. -/
theorem Turns.keeps {m : Mode} {P : Core → Prop} (hP : ∀ k k', Turn m k k' → P k → P k') {k k' : Core}
    (h : Turns m k k') (hk : P k) : P k' := by
  induction h with
  | refl => exact hk
  | tail _ hlast ih => exact hP _ _ hlast ih

/-! ### Tidiness is kept -/

theorem Phase.plain_iff (p : Phase) : p.plain = true ↔ p.measuring = false ∧ p ≠ .loopSwitchBack := by
  simp [Phase.plain]

theorem Turn.tidy {m : Mode} {k k' : Core} (h : Turn m k k') (hk : k.Tidy m) : k'.Tidy m := by
  obtain ⟨hsw, hwk, hmv, hlg⟩ := hk
  cases h with
  | counts | drives | plans | numbers => exact ⟨hsw, hwk, hmv, hlg⟩
  | goesOn w w' n hw hj =>
    refine ⟨hsw, fun hm _ => hwk hm (by simp [hw]), fun hm _ => hmv hm (by simp [hw]), ?_⟩
    rintro hm _ ⟨⟩ ht
    exact hlg hm w (by simp [hw]) (hj ▸ ht)
  | measures w w' h hw hc =>
    refine ⟨hsw, fun hm _ => hwk hm (by simp [hw]), fun hm _ => hmv hm (by simp [hw]), ?_⟩
    rintro hm _ ⟨⟩ ht
    exact hlg hm w (by simp [hw]) (hc.job ▸ ht)
  | handsBack w w' hw hc =>
    refine ⟨hsw, fun hm _ => hwk hm (by simp [hw]), fun hm _ => hmv hm (by simp [hw]), ?_⟩
    rintro hm _ ⟨⟩ ht
    exact hlg hm w (by simp [hw]) (hc.job ▸ ht)
  | finishes | writes | visits => exact ⟨hsw, by simp [Core.visited], by simp [Core.visited], by simp [Core.visited]⟩
  | closes => exact ⟨fun _ h => absurd h ‹_›, by simp [Core.ended], by simp [Core.ended], by simp [Core.ended]⟩
  | ends => exact ⟨fun _ h => absurd h ‹_›, by simp [Core.ended], by simp [Core.ended], by simp [Core.ended]⟩
  | begins w l s hr _ _ hl =>
    refine ⟨hsw, fun hm _ => hr.active hm, fun hm _ => hr.moving hm, ?_⟩
    rintro hm _ ⟨⟩ ht
    exact hl hm (.inr ht)
  | restarts w w' l s hw hc ha hi =>
    have hact : m ≠ .bare → k.active = true := fun hm => hwk hm (by simp [hw])
    refine ⟨fun hm _ => hact hm, fun hm _ => hact hm, by simp, ?_⟩
    rintro hm _ ⟨⟩ ht
    exact hlg hm w (by simp [hw]) (hc.job ▸ ht)
  | acquires ha hi hw =>
    exact ⟨fun hm _ => hsw hm (.inr (.inr ⟨ha, hi⟩)), by simp [hw], by simp [hw], by simp [hw]⟩
  | holds hr => exact ⟨fun hm _ => hr.active hm, hwk, fun hm => by simp [hr.idle hm], hlg⟩
  | frees hs => exact ⟨fun hm _ => hsw hm (.inr (.inl hs)), hwk, by simp, hlg⟩
  | loses v hs hh hv =>
    refine ⟨fun hm h => ?_, fun hm h => hwk hm ?_, by simp, ?_⟩
    · refine hsw hm ?_
      cases e : k.state <;> simp_all [Core.sweeping, lossIntent, BayState.following]
    · rintro e
      simp [e] at h
    · intro hm w hmem ht
      cases ha : k.active <;> cases e : k.work <;> simp [ha, e] at hmem
      · exact hlg hm w (by simp [e, hmem]) ht
      · rename_i w0
        subst hmem
        exact hlg hm w0 (by simp [e]) ht
  | places st i v l s _ hn =>
    refine ⟨fun _ h => absurd h hn, hwk, fun _ _ e => hn ?_, hlg⟩
    exact .inr (.inl e)
  | starts st i _ _ hn => exact ⟨fun _ _ => rfl, by simp, by simp, by simp⟩

theorem Turns.tidy {m : Mode} {k k' : Core} (h : Turns m k k') (hk : k.Tidy m) : k'.Tidy m :=
  h.keeps (fun _ _ => Turn.tidy) hk

end Sys2Proof.Machine

namespace Sys2Proof.Machine

/-! SUPPORT. Each law of a bay, said of its core and proved against every change of `Turn`. -/

variable {m : Mode} {k k' : Core}

/-! ### Tables -/

theorem Table.get_mem_or {α : Type} {d : α} {t : Table α} (i : Nat) :
    Table.get d t i = d ∨ (i, Table.get d t i) ∈ t := by
  induction t with
  | nil => exact .inl rfl
  | cons p rest ih =>
    obtain ⟨k, w⟩ := p
    simp only [Table.get]
    split
    · rename_i hk
      subst hk
      exact .inr (by simp)
    · exact ih.imp id (List.mem_cons_of_mem _)

section
variable {α : Type} [DecidableEq α] {d : α}

theorem Table.mem_put {t : Table α} {i : Nat} {v : α} {kv : Nat × α} (h : kv ∈ Table.put d t i v) :
    kv ∈ t ∨ kv = (i, v) := by
  induction t with
  | nil =>
    simp only [Table.put] at h
    split at h <;> simp_all
  | cons p rest ih =>
    simp only [Table.put] at h
    split at h
    · split at h <;> simp_all
      tauto
    · split at h
      · split at h <;> simp_all
        tauto
      · simp only [List.mem_cons] at h ⊢
        tauto

/-- Putting a value leaves what other keys read as. -/
theorem Table.get_put_other {t : Table α} {i a : Nat} (v : α) (h : a ≠ i) :
    Table.get d (Table.put d t i v) a = Table.get d t a := by
  induction t with
  | nil => by_cases hv : v = d <;> simp [Table.put, Table.get, hv, Ne.symm h]
  | cons p rest ih =>
    obtain ⟨k, w⟩ := p
    simp only [Table.put]
    split
    · split <;> simp [Table.get, Ne.symm h]
    · split
      · rename_i hk
        subst hk
        split <;> simp [Table.get, Ne.symm h]
      · simp [Table.get, ih]

end

theorem mapGet_mem_or (t : Table Entry) (h z : Nat) :
    mapGet t h z = Entry.empty ∨ ∃ key, (key, mapGet t h z) ∈ t :=
  (Table.get_mem_or (mapKey h z)).imp id fun hmem => ⟨_, hmem⟩

theorem mem_mapProvisional {f : OffsetPart → OffsetPart} {t : Table Entry} {kv : Nat × Entry}
    (h : kv ∈ mapProvisional f t) : (kv ∈ t ∧ kv.2.provisional = false) ∨
      ∃ e x, (kv.1, e) ∈ t ∧ e.offset = some x ∧ x.status = .provisional ∧
        kv.2 = { e with offset := some (f x) } := by
  simp only [mapProvisional, List.mem_map] at h
  obtain ⟨⟨key, e⟩, hmem, rfl⟩ := h
  cases ho : e.offset with
  | none => simp [Entry.provisional, hmem, ho]
  | some x =>
    by_cases hx : x.status = .provisional
    · exact .inr ⟨e, x, by simp [ho, hx, hmem]⟩
    · exact .inl (by simp [Entry.provisional, hmem, ho, hx])

/-- Changing the PROVISIONAL parts leaves the entries that have none. -/
theorem get_mapProvisional (f : OffsetPart → OffsetPart) {t : Table Entry} {i : Nat}
    (h : (Table.get Entry.empty t i).provisional = false) :
    Table.get Entry.empty (mapProvisional f t) i = Table.get Entry.empty t i := by
  induction t with
  | nil => rfl
  | cons p rest ih =>
    obtain ⟨key, e⟩ := p
    simp only [mapProvisional, List.map_cons] at ih ⊢
    by_cases hk : key = i
    · simp only [Table.get, if_pos hk] at h
      cases ho : e.offset with
      | none => simp [Table.get, hk]
      | some x =>
        have hx : x.status ≠ .provisional := by simpa [Entry.provisional, ho] using h
        simp [Table.get, hk, hx]
    · simp only [Table.get, if_neg hk] at h
      cases ho : e.offset with
      | none => simpa [Table.get, hk] using ih h
      | some x => by_cases hx : x.status = .provisional <;> simpa [Table.get, hk, hx] using ih h

theorem unclosed_status (x : OffsetPart) : x.unclosed.status = .suspect := rfl

theorem corrected_status (x : OffsetPart) (i : Int) (b : Bool) :
    (x.corrected i b).status ≠ .provisional := by
  unfold OffsetPart.corrected
  split
  · simp
  · split <;> simp

/-- When `f` leaves no part PROVISIONAL, none is left. -/
theorem mapProvisional_provisional {f : OffsetPart → OffsetPart} (hf : ∀ x, (f x).status ≠ .provisional)
    {t : Table Entry} {kv : Nat × Entry} (h : kv ∈ mapProvisional f t) : kv.2.provisional = false := by
  rcases mem_mapProvisional h with ⟨_, h⟩ | ⟨e, x, _, _, _, he⟩
  · exact h
  · simp [Entry.provisional, he, hf]

theorem mem_written {t : Table Entry} {h z : Nat} {r : StepResult} {kv : Nat × Entry}
    (hkv : kv ∈ written t h z r) :
    kv ∈ t ∨ ((mapGet t h z).accepted = false ∧ kv.2 = (mapGet t h z).write r) := by
  unfold written at hkv
  split at hkv
  · exact .inl hkv
  · rename_i ha
    exact (Table.mem_put hkv).imp id fun e => ⟨by simpa using ha, by rw [e]⟩

theorem written_wf {t : Table Entry} (h z : Nat) (r : StepResult) (ht : Table.wf Entry.empty t = true) :
    Table.wf Entry.empty (written t h z r) = true := by
  unfold written
  split
  · exact ht
  · exact mapPut_wf h z _ ht

theorem correctedMap_cases (p : Profile) (log : List RefRecord) (r : RefRecord) (t : Table Entry) :
    (log = [] ∧ correctedMap p log r t = t) ∨
      ∃ f, (∀ x, OffsetPart.status (f x) ≠ .provisional) ∧ correctedMap p log r t = mapProvisional f t := by
  cases log with
  | nil => exact .inl ⟨rfl, rfl⟩
  | cons a l =>
    refine .inr ?_
    unfold correctedMap
    cases hg : (a :: l).getLast? with
    | none => simp at hg
    | some b => exact ⟨_, fun x => corrected_status x _ _, rfl⟩

/-! ### The counters, the stack and the canonical form -/

theorem Turn.keeps_counterLaw (h : Turn m k k') (hk : k.running.lawful) : k'.running.lawful := by
  cases h with
  | counts r hr => exact hr hk
  | _ => exact hk

theorem Turn.keeps_stackLaw (h : Turn m k k') (hk : k.stackLaw) : k'.stackLaw := by
  cases h with
  | plans st pl pr hp => exact hp hk
  | closes | ends => exact ⟨Nat.zero_le _, by simp [Core.ended], by simp [Core.ended], by simp [Core.ended]⟩
  | starts => exact ⟨Nat.zero_le _, by simp, by rintro p ⟨⟩; rfl, by simp⟩
  | _ => exact hk

theorem Turn.keeps_mapWf (h : Turn m k k') (hk : Table.wf Entry.empty k.map = true) :
    Table.wf Entry.empty k'.map = true := by
  have corrected (r : RefRecord) :
      Table.wf Entry.empty (correctedMap k.profile k.log r k.map) = true := by
    rcases correctedMap_cases k.profile k.log r k.map with ⟨_, e⟩ | ⟨f, _, e⟩ <;> rw [e]
    · exact hk
    · exact mapProvisional_wf f hk
  cases h with
  | finishes w mp hw he hm =>
    rcases hm with rfl | ⟨h, z, r, rfl, _⟩
    · exact hk
    · exact written_wf h z r hk
  | writes h z r => exact written_wf h z r hk
  | visits w r => exact corrected r
  | closes w r => exact corrected r
  | ends mp st i v hm =>
    rcases hm with rfl | ⟨rfl, _⟩
    · exact mapProvisional_wf _ hk
    · exact hk
  | _ => exact hk

/-! ### The command (R64) -/

/-- The law of the command. -/
def Core.commandLaw (k : Core) : Prop :=
  k.command.natAbs ≤ k.profile.currentLimit ∧ (k.state = .offline → k.command = 0) ∧
    (k.state = .fault → k.command = parkOutput k.profile)

theorem clampSym_bound (limit : Nat) (v : Int) : (clampSym limit v).natAbs ≤ limit := by
  rw [clampSym_eq]
  omega

theorem Core.Sends.law {st : BayState} {v : Int} (h : k.Sends m st v)
    (hk : k.command.natAbs ≤ k.profile.currentLimit) :
    v.natAbs ≤ k.profile.currentLimit ∧ (st = .offline → v = 0) ∧
      (st = .fault → v = parkOutput k.profile) :=
  ⟨h.bound.elim id fun e => e ▸ hk, h.offline, h.fault⟩

theorem Turn.keeps_commandLaw (h : Turn m k k') (hk : k.commandLaw) : k'.commandLaw := by
  obtain ⟨hbound, hoff, hfault⟩ := hk
  cases h with
  | drives v hs hv =>
    exact ⟨hv.elim id fun e => e ▸ hbound, fun e => absurd e hs.1, fun e => absurd e hs.2⟩
  | closes w r st i v _ _ _ _ _ hd => exact hd.law hbound
  | ends mp st i v _ _ hv => exact hv.law hbound
  | places st i v l s _ _ hv => exact hv.law hbound
  | restarts | acquires | holds | frees => exact ⟨hbound, nofun, nofun⟩
  | loses v _ _ hv =>
    refine ⟨?_, nofun, nofun⟩
    rcases hv with rfl | rfl
    · exact Nat.zero_le _
    · exact hbound
  | starts st i hk hs hn =>
    refine ⟨hbound, ?_, ?_⟩ <;> rintro rfl <;> simp at hn
  | _ => exact ⟨hbound, hoff, hfault⟩

/-! ### The accepted mark (R78) -/

/-- What a change does to a map whose marked entries have no PROVISIONAL part: they have none after it, and
each entry that was marked is as it was. -/
def MarkKept (t t' : Table Entry) : Prop :=
  (∀ kv ∈ t, kv.2.accepted = true → kv.2.provisional = false) →
    (∀ kv ∈ t', kv.2.accepted = true → kv.2.provisional = false) ∧
      ∀ i, (Table.get Entry.empty t i).accepted = true →
        Table.get Entry.empty t' i = Table.get Entry.empty t i

theorem MarkKept.refl (t : Table Entry) : MarkKept t t := fun h => ⟨h, fun _ _ => rfl⟩

theorem MarkKept.trans {t u v : Table Entry} (h1 : MarkKept t u) (h2 : MarkKept u v) : MarkKept t v := by
  intro h
  obtain ⟨hu, e1⟩ := h1 h
  obtain ⟨hv, e2⟩ := h2 hu
  exact ⟨hv, fun i hi => (e2 i (by rw [e1 i hi]; exact hi)).trans (e1 i hi)⟩

theorem markKept_put {t : Table Entry} {i : Nat} {e : Entry}
    (hold : (Table.get Entry.empty t i).accepted = true → e = Table.get Entry.empty t i)
    (hnew : e.accepted = true → e.provisional = false) : MarkKept t (Table.put Entry.empty t i e) := by
  intro ht
  refine ⟨fun kv hkv ha => ?_, fun a ha => ?_⟩
  · rcases Table.mem_put hkv with h | rfl
    · exact ht kv h ha
    · exact hnew ha
  · by_cases hai : a = i
    · subst hai
      have := hold ha
      subst this
      clear hold hnew ht
      induction t with
      | nil => simp [Table.get, Entry.empty] at ha
      | cons p rest ih =>
        obtain ⟨key, w⟩ := p
        by_cases hk : key = a
        · have hne : w ≠ Entry.empty := by
            rintro rfl
            simp [Table.get, hk, Entry.empty] at ha
          simp [Table.put, Table.get, hk, hne]
        · have hne : Table.get Entry.empty rest a ≠ Entry.empty := by
            intro e
            rw [Table.get, if_neg hk, e] at ha
            exact absurd ha (by decide)
          by_cases hlt : a < key
          · simp [Table.put, Table.get, hk, hlt, hne]
          · have := ih (by simpa [Table.get, hk] using ha)
            simp only [Table.put, Table.get, if_neg hk, if_neg hlt]
            exact this
    · exact Table.get_put_other _ hai

theorem markKept_written (t : Table Entry) (h z : Nat) (r : StepResult) : MarkKept t (written t h z r) := by
  unfold written
  split
  · exact MarkKept.refl t
  · rename_i ha
    refine markKept_put (fun h => absurd h ha) fun hw => absurd ?_ ha
    cases r <;> exact hw

theorem markKept_mapProvisional (f : OffsetPart → OffsetPart) (t : Table Entry) :
    MarkKept t (mapProvisional f t) := by
  intro ht
  refine ⟨fun kv hkv ha => ?_, fun i ha => get_mapProvisional f ?_⟩
  · rcases mem_mapProvisional hkv with ⟨_, hp⟩ | ⟨e, x, hmem, ho, hx, he⟩
    · exact hp
    · have := ht _ hmem (by simpa [he] using ha)
      simp [Entry.provisional, ho, hx] at this
  · rcases Table.get_mem_or (d := Entry.empty) (t := t) i with h | h
    · rw [h] at ha
      exact absurd ha (by decide)
    · exact ht _ h ha

theorem markKept_accept (named : List (Nat × Nat)) (t : Table Entry) :
    MarkKept t (mapNamed Entry.accept named t) := by
  induction named generalizing t with
  | nil => exact MarkKept.refl t
  | cons hz rest ih =>
    refine MarkKept.trans (fun ht => ?_) (ih _)
    have accept_law (e : Entry) (he : e.accepted = true → e.provisional = false) :
        e.accept.accepted = true → e.accept.provisional = false := by
      unfold Entry.accept
      split
      · exact he
      · rename_i hp
        exact fun _ => by simpa [Entry.provisional] using hp
    have get_law : (mapGet t hz.1 hz.2).accepted = true → (mapGet t hz.1 hz.2).provisional = false := by
      rcases mapGet_mem_or t hz.1 hz.2 with h | ⟨key, h⟩
      · simp [h, Entry.empty]
      · exact ht _ h
    refine markKept_put (fun ha => ?_) (accept_law _ get_law) ht
    have accept_marked (e : Entry) (ha : e.accepted = true) : e.accept = e := by
      cases e
      simp_all [Entry.accept]
    exact accept_marked _ ha

theorem Turn.marks (h : Turn m k k') : MarkKept k.map k'.map := by
  have corrected (r : RefRecord) : MarkKept k.map (correctedMap k.profile k.log r k.map) := by
    rcases correctedMap_cases k.profile k.log r k.map with ⟨_, e⟩ | ⟨f, _, e⟩ <;> rw [e]
    · exact MarkKept.refl _
    · exact markKept_mapProvisional f _
  cases h with
  | finishes w mp hw he hm =>
    rcases hm with rfl | ⟨h, z, r, rfl, _⟩
    · exact MarkKept.refl _
    · exact markKept_written _ h z r
  | writes h z r => exact markKept_written _ h z r
  | visits w r => exact corrected r
  | closes w r => exact corrected r
  | ends mp st i v hm =>
    rcases hm with rfl | ⟨rfl, _⟩
    · exact markKept_mapProvisional _ _
    · exact MarkKept.refl _
  | _ => exact MarkKept.refl _

theorem Turns.marks (h : Turns m k k') : MarkKept k.map k'.map := by
  induction h with
  | refl => exact MarkKept.refl _
  | tail _ hlast ih => exact ih.trans hlast.marks

end Sys2Proof.Machine

namespace Sys2Proof.Machine

/-! SUPPORT. The laws of the log, of provisional parts and of the two heads, said of the core and proved
against every change of `Turn`. -/

variable {m : Mode} {k k' : Core}

/-! ### The reference log (R99) -/

/-- The law of the reference log with what it rests on. -/
def Core.logLaw (k : Core) : Prop :=
  k.log.length ≤ Config.logSize ∧ (k.log.map RefRecord.seq).Pairwise (· < ·) ∧
    (∀ r ∈ k.log, r.seq < k.seqNext) ∧
    ∀ w ∈ k.work, (∀ n ∈ w.seq, n < k.seqNext) ∧ (w.isVisit = true → w.newest k.log)

/-- Appending keeps a part of the log in its order, at most 63 records of a log of at most 64. -/
theorem appendLog_eq (log : List RefRecord) (r : RefRecord) :
    ∃ l, l.Sublist log ∧ appendLog log r = l ++ [r] ∧ (log.length ≤ 64 → l.length ≤ 63) := by
  unfold appendLog
  split
  · rename_i h
    exact ⟨log, .refl _, rfl, fun _ => Nat.le_of_lt_succ h⟩
  · rename_i h
    split
    · rename_i a b rest
      exact ⟨a :: rest, .cons_cons _ (.cons _ (.refl _)), rfl, fun hl => by simp at hl ⊢; omega⟩
    · rename_i hne
      refine ⟨log, .refl _, rfl, fun _ => ?_⟩
      match log, hne with
      | [], _ => simp
      | [a], _ => simp
      | a :: b :: rest, hne => exact absurd rfl (hne a b rest)

theorem appendLog_ne_nil (log : List RefRecord) (r : RefRecord) : appendLog log r ≠ [] := by
  obtain ⟨l, _, e, _⟩ := appendLog_eq log r
  simp [e]

theorem mem_appendLog {log : List RefRecord} {r x : RefRecord} (h : x ∈ appendLog log r) :
    x ∈ log ∨ x = r := by
  obtain ⟨l, hs, e, _⟩ := appendLog_eq log r
  rw [e, List.mem_append, List.mem_singleton] at h
  exact h.imp (hs.mem ·) id

/-- A record with a number above those of the log joins it lawfully. -/
theorem logLaw_append {log : List RefRecord} {r : RefRecord} {n : Nat} (hlen : log.length ≤ Config.logSize)
    (hpw : (log.map RefRecord.seq).Pairwise (· < ·)) (hlt : ∀ x ∈ log, x.seq < n)
    (hnew : ∀ x ∈ log, x.seq < r.seq) (hr : r.seq < n) :
    (appendLog log r).length ≤ Config.logSize ∧
      ((appendLog log r).map RefRecord.seq).Pairwise (· < ·) ∧ ∀ x ∈ appendLog log r, x.seq < n := by
  refine ⟨?_, ?_, fun x hx => (mem_appendLog hx).elim (hlt x) fun e => e ▸ hr⟩
  · obtain ⟨l, _, e, h⟩ := appendLog_eq log r
    have := h hlen
    simp [e, Config.logSize]
    omega
  · obtain ⟨l, hs, e, _⟩ := appendLog_eq log r
    rw [e, List.map_append, List.pairwise_append]
    refine ⟨hpw.sublist (hs.map _), by simp, ?_⟩
    simp only [List.mem_map, List.map_cons, List.map_nil, List.mem_singleton]
    rintro _ ⟨x, hx, rfl⟩ _ rfl
    exact hnew x (hs.mem hx)

theorem Work.isVisit_of_job {w w' : Work} (h : w'.job = w.job) : w'.isVisit = w.isVisit := by
  simp [Work.isVisit, h]
theorem Work.isOffset_of_job {w w' : Work} (h : w'.job = w.job) : w'.isOffset = w.isOffset := by
  simp [Work.isOffset, h]
theorem Work.isJog_of_job {w w' : Work} (h : w'.job = w.job) : w'.isJog = w.isJog := by
  simp [Work.isJog, h]

/-- Work is still newest with the same number, when it already measured or does not measure. -/
theorem Work.newest.carries {w w' : Work} {log : List RefRecord} (h : w.newest log) (hs : w'.seq = w.seq)
    (hp : w'.phase.measuring = true → w.phase.measuring = true) : w'.newest log := by
  obtain ⟨habove, hhas⟩ := h
  exact ⟨hs ▸ habove, fun hm => hs ▸ hhas (hp hm)⟩

/-- Work that goes on carries its number or takes the counter's, above every number of the log. -/
theorem newest_of_goesOn {w w' : Work} {n : Nat} (hlt : ∀ r ∈ k.log, r.seq < k.seqNext)
    (hs : (w'.seq = w.seq ∧ n = k.seqNext) ∨ (w'.seq = some k.seqNext ∧ n = k.seqNext + 1))
    (hp' : w'.phase.plain = true ∨ (w'.phase = .refAvg ∧ w'.seq ≠ none ∧ w.isJog = false))
    (h : w.newest k.log) : w'.newest k.log := by
  refine ⟨?_, fun hm => ?_⟩
  · rcases hs with ⟨e, _⟩ | ⟨e, _⟩
    · exact e ▸ h.1
    · rw [e]
      rintro _ ⟨⟩
      exact hlt
  · rcases hp' with hp | ⟨_, hne, _⟩
    · simp [(Phase.plain_iff _).1 hp] at hm
    · exact hne

theorem newest_of_fresh {w : Work} {log : List RefRecord} (hs : w.seq = none) (hp : w.phase.plain = true) :
    w.newest log :=
  ⟨by simp [hs], fun hm => by simp [(Phase.plain_iff _).1 hp] at hm⟩

/-- The record of a successful visit joins the log lawfully. -/
theorem logLaw_visited {w : Work} {r : RefRecord} (hk : k.logLaw) (hw : k.work = some w)
    (hv : w.isVisit = true) (hp : w.phase = .retHead) (hr : r.seq = w.seq.getD 0) :
    (appendLog k.log r).length ≤ Config.logSize ∧
      ((appendLog k.log r).map RefRecord.seq).Pairwise (· < ·) ∧
      ∀ x ∈ appendLog k.log r, x.seq < k.seqNext := by
  obtain ⟨hlen, hpw, hlt, hwork⟩ := hk
  obtain ⟨hn, hnew⟩ := hwork w (by simp [hw])
  obtain ⟨habove, hhas⟩ := hnew hv
  obtain ⟨n, hn'⟩ := Option.ne_none_iff_exists'.1 (hhas (by simp [hp, Phase.measuring]))
  have hrn : r.seq = n := by simp [hr, hn']
  exact logLaw_append hlen hpw hlt (fun x hx => hrn ▸ habove n (by simp [hn']) x hx)
    (hrn ▸ hn n (by simp [hn']))

theorem measuring_of_carries_phase {w w' : Work} {P Q : Prop}
    (hp : (w.phase = .refAvg ∧ w'.phase = .switch) ∨ (w.phase = .switch ∧ w'.phase = .headAvg ∧ P) ∨
      (w.phase.measuring = true ∧ w'.phase = .retHead ∧ Q)) : w.phase.measuring = true := by
  rcases hp with ⟨e, _⟩ | ⟨e, _⟩ | ⟨e, _⟩
  · simp [e, Phase.measuring]
  · simp [e, Phase.measuring]
  · exact e

theorem Turn.keeps_logLaw (h : Turn m k k') (hk : k.logLaw) : k'.logLaw := by
  have hlaw := hk
  obtain ⟨hlen, hpw, hlt, hwork⟩ := hk
  cases h with
  | counts | drives | plans | acquires | holds | frees | places => exact ⟨hlen, hpw, hlt, hwork⟩
  | numbers =>
    refine ⟨hlen, hpw, fun r hr => Nat.lt_succ_of_lt (hlt r hr), fun w hw => ?_⟩
    obtain ⟨h1, h2⟩ := hwork w hw
    exact ⟨fun n hn => Nat.lt_succ_of_lt (h1 n hn), h2⟩
  | goesOn w w' n hw hj hs hp hp' =>
    obtain ⟨h1, h2⟩ := hwork w (by simp [hw])
    have hn : k.seqNext ≤ n := by rcases hs with ⟨_, e⟩ | ⟨_, e⟩ <;> omega
    refine ⟨hlen, hpw, fun r hr => Nat.lt_of_lt_of_le (hlt r hr) hn, ?_⟩
    rintro _ ⟨⟩
    refine ⟨?_, fun hv => newest_of_goesOn (k := k) hlt hs hp' (h2 (Work.isVisit_of_job hj ▸ hv))⟩
    rcases hs with ⟨e, _⟩ | ⟨e, e'⟩
    · exact e ▸ fun i hi => Nat.lt_of_lt_of_le (h1 i hi) hn
    · rw [e]
      rintro _ ⟨⟩
      show k.seqNext < n
      omega
  | measures w w' h hw hc hs hp =>
    obtain ⟨h1, h2⟩ := hwork w (by simp [hw])
    refine ⟨hlen, hpw, hlt, ?_⟩
    rintro _ ⟨⟩
    exact ⟨hc.seq ▸ h1, fun hv => (h2 (Work.isVisit_of_job hc.job ▸ hv)).carries hc.seq
      fun _ => measuring_of_carries_phase hp⟩
  | handsBack w w' hw hc hp hp' =>
    obtain ⟨h1, h2⟩ := hwork w (by simp [hw])
    refine ⟨hlen, hpw, hlt, ?_⟩
    rintro _ ⟨⟩
    exact ⟨hc.seq ▸ h1, fun hv => (h2 (Work.isVisit_of_job hc.job ▸ hv)).carries hc.seq
      fun hm => by simp [hp', Phase.measuring] at hm⟩
  | finishes | writes | ends => exact ⟨hlen, hpw, hlt, by simp [Core.ended]⟩
  | visits w r hw hv hp hr =>
    obtain ⟨h1, h2, h3⟩ := logLaw_visited hlaw hw hv hp hr
    exact ⟨h1, h2, h3, by simp [Core.visited]⟩
  | closes w r st i v hw hv hp hr =>
    obtain ⟨h1, h2, h3⟩ := logLaw_visited hlaw hw hv hp hr
    exact ⟨h1, h2, h3, by simp [Core.ended]⟩
  | begins w l s hr hs hp =>
    refine ⟨hlen, hpw, hlt, ?_⟩
    rintro _ ⟨⟩
    exact ⟨by simp [hs], fun _ => newest_of_fresh hs hp⟩
  | restarts w w' l s hw hc ha hi hp =>
    obtain ⟨h1, h2⟩ := hwork w (by simp [hw])
    refine ⟨hlen, hpw, hlt, ?_⟩
    rintro _ ⟨⟩
    exact ⟨hc.seq ▸ h1, fun hv => (h2 (Work.isVisit_of_job hc.job ▸ hv)).carries hc.seq
      fun hm => by simp [(Phase.plain_iff _).1 hp] at hm⟩
  | loses v hs hh hv =>
    refine ⟨hlen, hpw, hlt, fun w hw => ?_⟩
    cases ha : k.active <;> simp only [ha, if_true, Bool.false_eq_true, if_false] at hw
    · exact hwork w hw
    · obtain ⟨w0, hw0, rfl⟩ := Option.map_eq_some_iff.1 hw
      obtain ⟨h1, h2⟩ := hwork w0 hw0
      exact ⟨h1, fun hv => (h2 hv).carries rfl fun hm => by simp [Work.interrupted, Work.fresh, Phase.measuring] at hm⟩
  | starts => exact ⟨Nat.zero_le _, .nil, by simp, by simp⟩

/-! ### Provisional parts (R72) -/

/-- The law of provisional parts with the laws it rests on. -/
structure Core.PartsLaw (k : Core) : Prop where
  active : k.active = true ↔ k.sweeping
  log : k.logLaw
  work : ∀ w ∈ k.work, k.active = true ∧ (w.isOffset = true → k.log ≠ [] ∧ w.newest k.log) ∧
    (w.job = .visit .onTrigger → k.log ≠ [])
  parts : ∀ kv ∈ k.map, ∀ x ∈ kv.2.offset, x.status = .provisional →
    k.active = true ∧ k.log ≠ [] ∧ x.seq ≠ none ∧ ∀ n ∈ x.seq, ∀ r ∈ k.log, r.seq < n

theorem Core.PartsLaw.tidy (h : k.PartsLaw) : k.Tidy .parts where
  sweeping _ := h.active.2
  working _ hw := by
    obtain ⟨w, hw'⟩ := Option.ne_none_iff_exists'.1 hw
    exact (h.work w (by simp [hw'])).1
  moving := nofun
  logged _ w hw := (h.work w hw).2.2

/-- Entries without a PROVISIONAL part meet the law of provisional parts. -/
theorem no_parts {t : Table Entry} {Q : OffsetPart → Prop} (h : ∀ kv ∈ t, kv.2.provisional = false) :
    ∀ kv ∈ t, ∀ x ∈ kv.2.offset, x.status = .provisional → Q x := by
  intro kv hkv x hx hp
  have := h kv hkv
  rw [Option.mem_def] at hx
  simp [Entry.provisional, hx, hp] at this

theorem anyProvisional_eq_false {t : Table Entry} (h : anyProvisional t = false) :
    ∀ kv ∈ t, kv.2.provisional = false := by
  simpa [anyProvisional] using h

/-- A part that a write leaves is a part that stood or the part written. -/
theorem part_of_written {t : Table Entry} {h z : Nat} {r : StepResult} {kv : Nat × Entry}
    (hkv : kv ∈ written t h z r) {x : OffsetPart} (hx : x ∈ kv.2.offset) :
    (∃ kv0 ∈ t, x ∈ kv0.2.offset) ∨ r = .offset x := by
  rcases mem_written hkv with hmem | ⟨_, e⟩
  · exact .inl ⟨kv, hmem, hx⟩
  · rw [e] at hx
    cases r with
    | offset y =>
      simp only [Entry.write, Option.mem_def, Option.some.injEq] at hx
      exact .inr (by rw [hx])
    | jog y =>
      simp only [Entry.write] at hx
      rcases mapGet_mem_or t h z with h' | ⟨key, h'⟩
      · simp [h', Entry.empty] at hx
      · exact .inl ⟨_, h', hx⟩

/-- After drift correction no part is PROVISIONAL; with an empty log there was none. -/
theorem correctedMap_provisional {r : RefRecord} (hk : k.PartsLaw) :
    ∀ kv ∈ correctedMap k.profile k.log r k.map, kv.2.provisional = false := by
  rcases correctedMap_cases k.profile k.log r k.map with ⟨hl, e⟩ | ⟨f, hf, e⟩ <;> rw [e]
  · intro kv hkv
    cases ho : kv.2.offset with
    | none => simp [Entry.provisional, ho]
    | some x =>
      by_contra hp
      exact (hk.parts kv hkv x (by simp [ho]) (by simpa [Entry.provisional, ho] using hp)).2.1 hl
  · exact fun kv => mapProvisional_provisional hf

theorem Turn.keeps_partsLaw (h : Turn .parts k k') (hk : k.PartsLaw) : k'.PartsLaw := by
  have hlog := h.keeps_logLaw hk.log
  have htidy := h.tidy hk.tidy
  obtain ⟨hactive, ⟨hlen, hpw, hlt, hwl⟩, hwork, hparts⟩ := hk
  have hk : k.PartsLaw := ⟨hactive, ⟨hlen, hpw, hlt, hwl⟩, hwork, hparts⟩
  have hp0 : Mode.parts ≠ .bare := nofun
  cases h with
  | counts | drives | plans | numbers => exact ⟨hactive, hlog, hwork, hparts⟩
  | goesOn w w' n hw hj hs hp hp' =>
    obtain ⟨h1, h2, h3⟩ := hwork w (by simp [hw])
    refine ⟨hactive, hlog, ?_, hparts⟩
    rintro _ ⟨⟩
    refine ⟨h1, fun ho => ?_, hj ▸ h3⟩
    obtain ⟨h4, h5⟩ := h2 (Work.isOffset_of_job hj ▸ ho)
    exact ⟨h4, newest_of_goesOn (k := k) hlt hs hp' h5⟩
  | measures w w' h hw hc hs hp =>
    obtain ⟨h1, h2, h3⟩ := hwork w (by simp [hw])
    refine ⟨hactive, hlog, ?_, hparts⟩
    rintro _ ⟨⟩
    refine ⟨h1, fun ho => ?_, hc.job ▸ h3⟩
    obtain ⟨h4, h5⟩ := h2 (Work.isOffset_of_job hc.job ▸ ho)
    exact ⟨h4, h5.carries hc.seq fun _ => measuring_of_carries_phase hp⟩
  | handsBack w w' hw hc hp hp' =>
    obtain ⟨h1, h2, h3⟩ := hwork w (by simp [hw])
    refine ⟨hactive, hlog, ?_, hparts⟩
    rintro _ ⟨⟩
    refine ⟨h1, fun ho => ?_, hc.job ▸ h3⟩
    obtain ⟨h4, h5⟩ := h2 (Work.isOffset_of_job hc.job ▸ ho)
    exact ⟨h4, h5.carries hc.seq fun hm => by simp [hp', Phase.measuring] at hm⟩
  | finishes w mp hw he hm =>
    obtain ⟨h1, h2, _⟩ := hwork w (by simp [hw])
    refine ⟨hactive, hlog, by simp, fun kv hkv x hx hpr => ?_⟩
    rcases hm with rfl | ⟨h, z, r, rfl, hr⟩
    · exact hparts kv hkv x hx hpr
    · rcases part_of_written hkv hx with ⟨kv0, h0, hx0⟩ | rfl
      · exact hparts kv0 h0 x hx0 hpr
      · obtain ⟨ho, hm, y, e, hs⟩ := hr (by simp [StepResult.provisional, hpr])
        cases e
        obtain ⟨h4, h5, h6⟩ := h2 ho
        exact ⟨h1, h4, hs ▸ h6 hm, hs ▸ h5⟩
  | writes h z r hr hp =>
    refine ⟨hactive, hlog, by simp, fun kv hkv x hx hpr => ?_⟩
    rcases part_of_written hkv hx with ⟨kv0, h0, hx0⟩ | rfl
    · exact hparts kv0 h0 x hx0 hpr
    · simp [StepResult.provisional, hpr] at hp
  | visits w r => exact ⟨hactive, hlog, by simp [Core.visited], no_parts (correctedMap_provisional hk)⟩
  | closes w r st i v _ _ _ _ hn =>
    exact ⟨⟨nofun, fun h => absurd h hn⟩, hlog, by simp [Core.ended],
      no_parts (correctedMap_provisional hk)⟩
  | begins w l s hr hs hp hl =>
    refine ⟨hactive, hlog, ?_, hparts⟩
    rintro _ ⟨⟩
    exact ⟨hr.active hp0, fun ho => ⟨hl rfl (.inl ho), newest_of_fresh hs hp⟩, fun hv => hl rfl (.inr hv)⟩
  | restarts w w' l s hw hc ha hi hp =>
    obtain ⟨h1, h2, h3⟩ := hwork w (by simp [hw])
    refine ⟨⟨fun _ => .inl rfl, fun _ => h1⟩, hlog, ?_, hparts⟩
    rintro _ ⟨⟩
    refine ⟨h1, fun ho => ?_, hc.job ▸ h3⟩
    obtain ⟨h4, h5⟩ := h2 (Work.isOffset_of_job hc.job ▸ ho)
    exact ⟨h4, h5.carries hc.seq fun hm => by simp [(Phase.plain_iff _).1 hp] at hm⟩
  | acquires | frees => exact ⟨⟨fun _ => .inl rfl, htidy.sweeping hp0⟩, hlog, hwork, hparts⟩
  | holds => exact ⟨⟨fun _ => .inr (.inl rfl), htidy.sweeping hp0⟩, hlog, hwork, hparts⟩
  | loses v hs hh hv =>
    refine ⟨⟨fun ha => .inr (.inr ⟨rfl, ?_⟩), htidy.sweeping hp0⟩, hlog, fun w hw => ?_, hparts⟩
    · rcases hactive.1 ha with e | e | ⟨e, _⟩ <;> simp [e, lossIntent, BayState.following] at hs ⊢
    · cases ha : k.active <;> simp only [ha, if_true, Bool.false_eq_true, if_false] at hw
      · exact ha ▸ hwork w hw
      · obtain ⟨w0, hw0, rfl⟩ := Option.map_eq_some_iff.1 hw
        obtain ⟨h1, h2, h3⟩ := hwork w0 hw0
        refine ⟨rfl, fun ho => ?_, h3⟩
        obtain ⟨h4, h5⟩ := h2 ho
        exact ⟨h4, h5.carries rfl fun hm => by
          simp [Work.interrupted, Work.fresh, Phase.measuring] at hm⟩
  | ends mp st i v hm hn =>
    refine ⟨⟨nofun, fun h => absurd h hn⟩, hlog, by simp [Core.ended], no_parts ?_⟩
    rcases hm with rfl | ⟨rfl, ha⟩
    · exact fun kv => mapProvisional_provisional fun x => by simp [unclosed_status]
    · exact anyProvisional_eq_false ha
  | places st i v l s hs hn =>
    refine ⟨⟨fun ha => ?_, fun h => absurd h hn⟩, hlog, hwork, hparts⟩
    rcases hs with h | h
    · exact absurd (hactive.1 ha) h
    · exact absurd ha (by simp [h])
  | starts st i hs _ hn =>
    refine ⟨⟨fun _ => ?_, fun _ => rfl⟩, hlog, by simp, fun kv hkv x hx hpr => ?_⟩
    · exact hn.elim .inl fun h => .inr (.inr h)
    · exact absurd (hactive.1 (hparts kv hkv x hx hpr).1) hs

/-! ### The two heads (R57) -/

/-- The law of the two heads with the laws it rests on. -/
structure Core.HeadsLaw (k : Core) : Prop where
  active : k.active = true ↔ k.sweeping
  work : k.work ≠ none → k.active = true ∧ k.state ≠ .held
  loop : k.active = true → k.loopHead = k.profile.refHead ∨ ∃ w ∈ k.work, w.onMeasured = true
  phases : ∀ w ∈ k.work, (w.phase.switched = true → k.state = .sweep) ∧
    (w.phase = .retHead → k.selHead = k.profile.refHead)
  heads : k.loopHead = k.selHead ∨ ∃ w ∈ k.work, w.phase.switched = true

theorem Core.HeadsLaw.tidy (h : k.HeadsLaw) : k.Tidy .heads where
  sweeping _ := h.active.2
  working _ hw := (h.work hw).1
  moving _ hw := (h.work hw).2
  logged := nofun

theorem Phase.switched_of_plain {p : Phase} (h : p.plain = true) : p.switched = false ∧ p ≠ .retHead := by
  cases p <;> simp_all [Phase.plain, Phase.switched, Phase.measuring]

/-- In a plain phase a JOG step and nothing else may be on the measured head. -/
theorem Work.onMeasured_of_plain {w : Work} (h : w.phase.plain = true) : w.onMeasured = w.isJog := by
  obtain ⟨h1, h2⟩ := (Phase.plain_iff _).1 h
  unfold Work.onMeasured Work.isJog
  split <;> simp_all

theorem Work.onMeasured_isJog {w : Work} (h : w.onMeasured = true) : w.isJog = true := by
  unfold Work.onMeasured at h
  unfold Work.isJog
  split at h <;> simp_all

theorem Work.onMeasured_of_measuring {w : Work} (h : w.phase.measuring = true) : w.onMeasured = false := by
  unfold Work.onMeasured
  split <;> simp [h]

/-- The heads agree while the work in flight is not in a phase that switches them. -/
theorem Core.HeadsLaw.agree (h : k.HeadsLaw) (hw : ∀ w ∈ k.work, w.phase.switched = false) :
    k.loopHead = k.selHead := by
  rcases h.heads with e | ⟨w, hmem, hs⟩
  · exact e
  · simp [hw w hmem] at hs

/-- Work that may end leaves both heads on ref_head. -/
theorem Core.HeadsLaw.onRef {w : Work} (h : k.HeadsLaw) (hw : k.work = some w) (he : w.mayEnd k) :
    k.loopHead = k.profile.refHead ∧ k.selHead = k.profile.refHead := by
  have hloop := h.loop (h.work (by simp [hw])).1
  rcases he with hp | ⟨hs, hm⟩
  · refine ⟨?_, (h.phases w (by simp [hw])).2 hp⟩
    rcases hloop with e | ⟨w', hw', hon⟩
    · exact e
    · rw [hw, Option.mem_some_iff] at hw'
      subst hw'
      simp [Work.onMeasured_of_measuring (w := w) (by simp [hp, Phase.measuring])] at hon
  · have hl : k.loopHead = k.profile.refHead := by
      rcases hloop with e | ⟨w', hw', hon⟩
      · exact e
      · rw [hw, Option.mem_some_iff] at hw'
        exact hm (hw' ▸ hon)
    refine ⟨hl, ?_⟩
    rw [← hl, h.agree fun w' hw' => ?_]
    rw [hw, Option.mem_some_iff] at hw'
    exact hw' ▸ hs

/-- With no work in flight the law is that the heads agree, on ref_head while a sweep is active. -/
theorem Core.HeadsLaw.of_idle (ha : k.active = true ↔ k.sweeping) (hw : k.work = none)
    (hl : k.active = true → k.loopHead = k.profile.refHead) (hh : k.loopHead = k.selHead) : k.HeadsLaw :=
  ⟨ha, by simp [hw], fun h => .inl (hl h), by simp [hw], .inl hh⟩

theorem Turn.keeps_headsLaw (h : Turn .heads k k') (hk : k.HeadsLaw) : k'.HeadsLaw := by
  have htidy := h.tidy hk.tidy
  have hk0 := hk
  obtain ⟨hactive, hwork, hloop, hphases, hheads⟩ := hk
  have hp0 : Mode.heads ≠ .bare := nofun
  cases h with
  | counts | drives | plans | numbers => exact ⟨hactive, hwork, hloop, hphases, hheads⟩
  | goesOn w w' n hw hj hs hp hp' =>
    have hon : w'.onMeasured = w.onMeasured := by
      rw [Work.onMeasured_of_plain hp]
      rcases hp' with h | ⟨h, _, hno⟩
      · rw [Work.onMeasured_of_plain h, Work.isJog_of_job hj]
      · rw [Work.onMeasured_of_measuring (by simp [h, Phase.measuring]), hno]
    have hplain : w'.phase.switched = false ∧ w'.phase ≠ .retHead := by
      rcases hp' with h | ⟨h, _⟩
      · exact Phase.switched_of_plain h
      · simp [h, Phase.switched]
    refine ⟨hactive, fun _ => hwork (by simp [hw]), fun ha => ?_, ?_, .inl (hk0.agree ?_)⟩
    · refine (hloop ha).imp id ?_
      rintro ⟨w0, hw0, h0⟩
      rw [hw, Option.mem_some_iff] at hw0
      subst hw0
      exact ⟨w', rfl, hon ▸ h0⟩
    · rintro _ ⟨⟩
      exact ⟨fun h => by simp [hplain.1] at h, fun h => absurd h hplain.2⟩
    · simp [hw, (Phase.switched_of_plain hp).1]
  | measures w w' h hw hc hs hp =>
    have hmeas := measuring_of_carries_phase hp
    have hon := Work.onMeasured_of_measuring hmeas
    have hl : k.active = true → k.loopHead = k.profile.refHead := fun ha => by
      rcases hloop ha with e | ⟨w0, hw0, h0⟩
      · exact e
      · rw [hw, Option.mem_some_iff] at hw0
        subst hw0
        simp [hon] at h0
    have hsw : w'.phase.switched = true ∧ (w'.phase = .retHead → h = k.profile.refHead) := by
      rcases hp with ⟨_, e⟩ | ⟨_, e, _⟩ | ⟨_, e, e'⟩
      · simp [e, Phase.switched]
      · simp [e, Phase.switched]
      · simp [e, Phase.switched, e']
    refine ⟨hactive, fun _ => hwork (by simp [hw]), fun ha => .inl (hl ha), ?_, .inr ⟨w', rfl, hsw.1⟩⟩
    rintro _ ⟨⟩
    exact ⟨fun _ => hs, hsw.2⟩
  | handsBack w w' hw hc hp hp' =>
    refine ⟨hactive, fun _ => hwork (by simp [hw]), fun _ => .inl rfl, ?_, .inl rfl⟩
    rintro _ ⟨⟩
    simp [hp', Phase.switched]
  | finishes w mp hw he hm =>
    obtain ⟨h1, h2⟩ := hk0.onRef hw he
    exact .of_idle hactive rfl (fun _ => h1) (h1.trans h2.symm)
  | writes h z r hr hp =>
    have hidle := hr.idle rfl
    refine .of_idle hactive rfl (fun ha => ?_) (hk0.agree (by simp [hidle]))
    exact (hloop ha).elim id fun ⟨w, hw, _⟩ => by simp [hidle] at hw
  | visits w r hw hv hp hr =>
    obtain ⟨h1, h2⟩ := hk0.onRef hw (.inl hp)
    exact .of_idle hactive rfl (fun _ => h1) (h1.trans h2.symm)
  | closes w r st i v _ _ _ _ hn =>
    exact .of_idle ⟨nofun, fun h => absurd h hn⟩ rfl (fun _ => rfl) rfl
  | ends mp st i v hm hn =>
    exact .of_idle ⟨nofun, fun h => absurd h hn⟩ rfl (fun _ => rfl) rfl
  | begins w l s hr hs hp hl hh =>
    have hidle := hr.idle rfl
    have hagree := hk0.agree (by simp [hidle])
    have hplain := Phase.switched_of_plain hp
    refine ⟨hactive, fun _ => ⟨hr.active hp0, hr.moving rfl⟩, fun ha => ?_, ?_, ?_⟩
    · rcases hh with ⟨rfl, rfl⟩ | ⟨_, hj⟩
      · exact (hloop ha).imp id fun ⟨w, hw, _⟩ => by simp [hidle] at hw
      · exact .inr ⟨w, rfl, by rw [Work.onMeasured_of_plain hp, hj]⟩
    · rintro _ ⟨⟩
      exact ⟨fun h => by simp [hplain.1] at h, fun h => absurd h hplain.2⟩
    · rcases hh with ⟨rfl, rfl⟩ | ⟨rfl, _⟩
      · exact .inl hagree
      · exact .inl rfl
  | restarts w w' l s hw hc ha hi hp hh =>
    have hact := (hwork (by simp [hw])).1
    have hnot : ∀ w ∈ k.work, w.phase.switched = false := fun w0 hw0 => by
      by_contra h
      have := (hphases w0 hw0).1 (by simpa using h)
      simp [ha] at this
    have hplain := Phase.switched_of_plain hp
    refine ⟨⟨fun _ => .inl rfl, fun _ => hact⟩, fun _ => ⟨hact, nofun⟩, fun _ => ?_, ?_, ?_⟩
    · by_cases hj : w.isJog = true
      · exact .inr ⟨w', rfl, by rw [Work.onMeasured_of_plain hp, Work.isJog_of_job hc.job, hj]⟩
      · rcases hh with ⟨rfl, rfl⟩ | ⟨_, hj'⟩
        · refine (hloop hact).imp id ?_
          rintro ⟨w0, hw0, h0⟩
          rw [hw, Option.mem_some_iff] at hw0
          subst hw0
          exact absurd (Work.onMeasured_isJog h0) hj
        · exact absurd hj' hj
    · rintro _ ⟨⟩
      exact ⟨fun _ => rfl, fun h => absurd h hplain.2⟩
    · rcases hh with ⟨rfl, rfl⟩ | ⟨rfl, _⟩
      · exact .inl (hk0.agree hnot)
      · exact .inl rfl
  | acquires ha hi hw =>
    refine .of_idle ⟨fun _ => .inl rfl, htidy.sweeping hp0⟩ hw (fun h => ?_) (hk0.agree (by simp [hw]))
    exact (hloop h).elim id fun ⟨w, hw', _⟩ => by simp [hw] at hw'
  | holds hr =>
    have hidle := hr.idle rfl
    refine .of_idle ⟨fun _ => .inr (.inl rfl), htidy.sweeping hp0⟩ hidle (fun h => ?_)
      (hk0.agree (by simp [hidle]))
    exact (hloop h).elim id fun ⟨w, hw', _⟩ => by simp [hidle] at hw'
  | frees hs =>
    have hidle : k.work = none := by
      by_contra h
      exact (hwork h).2 hs
    refine .of_idle ⟨fun _ => .inl rfl, htidy.sweeping hp0⟩ hidle (fun h => ?_)
      (hk0.agree (by simp [hidle]))
    exact (hloop h).elim id fun ⟨w, hw', _⟩ => by simp [hidle] at hw'
  | loses v hs hh hv =>
    have hagree : k.loopHead = k.selHead := by
      rcases hh with e | ⟨w, hw, hp⟩
      · exact e.symm
      · rcases hp with hp | hp
        · obtain ⟨h1, h2⟩ := hk0.onRef hw (.inl hp)
          exact h1.trans h2.symm
        · exact hk0.agree (by simp [hw, hp])
    refine ⟨⟨fun ha => .inr (.inr ⟨rfl, ?_⟩), htidy.sweeping hp0⟩, fun h => ⟨?_, nofun⟩, fun ha => ?_, ?_,
      .inl hagree⟩
    · rcases hactive.1 ha with e | e | ⟨e, _⟩ <;> simp [e, lossIntent, BayState.following] at hs ⊢
    · exact htidy.working hp0 h
    · refine (hloop ha).imp id ?_
      rintro ⟨w, hw, h0⟩
      change k.active = true at ha
      refine ⟨w.interrupted, by simp [ha, Option.mem_def.1 hw], ?_⟩
      rw [Work.onMeasured_of_plain (by rfl)]
      have hjog := Work.onMeasured_isJog h0
      exact hjog
    · intro w hw
      cases ha : k.active <;> simp only [ha, if_true, Bool.false_eq_true, if_false] at hw
      · exact absurd (hwork (by simp [Option.mem_def.1 hw])).1 (by simp [ha])
      · obtain ⟨w0, hw0, rfl⟩ := Option.map_eq_some_iff.1 hw
        exact ⟨nofun, nofun⟩
  | places st i v l s hs hn hv hh =>
    have hact : k.active = false := by
      rcases hs with h | h
      · exact Bool.eq_false_iff.2 fun ha => h (hactive.1 ha)
      · exact h
    have hidle : k.work = none := by
      by_contra h
      simp [(hwork h).1] at hact
    refine .of_idle ⟨fun ha => absurd ha (by simp [hact]), fun h => absurd h hn⟩ hidle
      (fun ha => absurd ha (by simp [hact])) ?_
    rcases hh with ⟨rfl, rfl⟩ | rfl
    · exact hk0.agree (by simp [hidle])
    · rfl
  | starts st i hs _ hn =>
    exact .of_idle ⟨fun _ => hn.elim .inl fun h => .inr (.inr h), fun _ => rfl⟩ rfl (fun _ => rfl) rfl

end Sys2Proof.Machine

namespace Sys2Proof.Machine

/-! SUPPORT. The sweep engine's functions as changes of the core: steps, boundaries, visits, JOG steps and
the end of a sweep. -/

variable {m : Mode}

/-! ### Ends of a sweep -/

/-- Where a sweep's end leaves a bay that stays powered and out of FAULT. -/
theorem endSweep_core (o : SweepOutcome) (c : Ctx) (h : o = .lostServo → c.bay.ctrl.state = .acquire) :
    ∃ st i, (endSweep o c).core = c.core.ended (endMap o c.bay.map) st i c.bay.ctrl.command ∧
      (st = .follow ∨ (st = .acquire ∧ i = .follow)) := by
  have hcore : (restoreRef (endCore o c)).core = c.core.ended (endMap o c.bay.map) c.bay.ctrl.state
      c.bay.acq.intent c.bay.ctrl.command := by
    have hp : (endCore o c).bay.profile = c.bay.profile := congrArg Kept.profile (endCore_kept c o)
    rw [restoreRef_core, endCore_core, hp]
    rfl
  have hst : (restoreRef (endCore o c)).bay.ctrl.state = c.bay.ctrl.state := congrArg Core.state hcore
  have hstay := congrArg (fun k : Core => { k with intent := .follow }) hcore
  have hfollow := congrArg (fun k : Core => { k with state := .follow }) hcore
  have hacquire := congrArg (fun k : Core => { k with state := .acquire, intent := .follow }) hcore
  unfold endSweep placeAfterSweep
  simp only
  split
  · exact ⟨_, _, hfollow, .inl rfl⟩
  · exact ⟨_, _, hstay, .inr ⟨h rfl, rfl⟩⟩
  · split
    · rename_i hs
      exact ⟨_, _, hstay, .inr ⟨hst ▸ hs, rfl⟩⟩
    · split
      · exact ⟨_, _, hfollow, .inl rfl⟩
      · exact ⟨_, _, hacquire, .inr ⟨rfl, rfl⟩⟩

theorem not_sweeping_of_place {k : Core} (h : k.state = .follow ∨ (k.state = .acquire ∧ k.intent = .follow)) :
    ¬ k.sweeping := by
  rcases h with e | ⟨e, e'⟩ <;> simp_all [Core.sweeping]

theorem sends_command_of_place {k : Core} {st : BayState} {i : Intent}
    (h : st = .follow ∨ (st = .acquire ∧ i = .follow)) : k.Sends m st k.command := by
  refine ⟨.inr rfl, ?_, ?_, fun _ => ?_⟩ <;> rintro rfl <;> simp at h

/-- Whatever outcome a sweep ends with, its PROVISIONAL parts are closed or there are none. -/
theorem endMap_cases {o : SweepOutcome} {t : Table Entry} (h : o = .complete → anyProvisional t = false) :
    endMap o t = mapProvisional OffsetPart.unclosed t ∨ (endMap o t = t ∧ anyProvisional t = false) := by
  unfold endMap
  split
  · exact .inr ⟨rfl, h ‹_›⟩
  · exact .inl rfl

theorem endSweep_turns (o : SweepOutcome) (c : Ctx) (hs : o = .lostServo → c.bay.ctrl.state = .acquire)
    (hm : o = .complete → anyProvisional c.bay.map = false) : Turns m c.core (endSweep o c).core := by
  obtain ⟨st, i, e, h⟩ := endSweep_core o c hs
  rw [e]
  exact (Turn.ends _ st i _ (endMap_cases hm) (not_sweeping_of_place h) (sends_command_of_place h)).turns

theorem parkOutput_bound (p : Profile) : (parkOutput p).natAbs ≤ p.currentLimit := clampSym_bound _ _

theorem sends_park (k : Core) : k.Sends m .fault (parkOutput k.profile) :=
  ⟨.inl (parkOutput_bound _), nofun, fun _ => rfl, nofun⟩

theorem enterFault_turns (o : SweepOutcome) (c : Ctx) (ho : o ≠ .complete) :
    Turns m c.core (enterFault o c).core := by
  cases ha : c.bay.sweep.active
  · have e : (enterFault o c).core = { c.core with
        state := .fault, intent := c.core.intent, command := parkOutput c.core.profile
        loopHead := c.core.loopHead, selHead := c.core.loopHead } := by
      simp [enterFault, ha]
    rw [e]
    exact (Turn.places (k := c.core) .fault c.core.intent (parkOutput c.core.profile) c.core.loopHead
      c.core.loopHead (.inr ha) (by simp [Core.sweeping]) (sends_park _) (.inr rfl)).turns
  · have hp : (endCore o c).bay.profile = c.bay.profile := congrArg Kept.profile (endCore_kept c o)
    have hl : (restoreRef (endCore o c)).bay.ctrl.loopHead = c.bay.profile.refHead := by
      rw [restoreRef_ctrl, hp]
      rfl
    have hi : (restoreRef (endCore o c)).bay.acq.intent = c.bay.acq.intent :=
      (congrArg Core.intent (restoreRef_core (endCore o c))).trans (congrArg Core.intent (endCore_core c o))
    have hr : (restoreRef (endCore o c)).bay.profile = c.bay.profile :=
      congrArg Kept.profile ((restoreRef_kept _).trans (endCore_kept c o))
    have e : (enterFault o c).core = c.core.ended (endMap o c.bay.map) .fault c.core.intent
        (parkOutput c.core.profile) := by
      simp [enterFault, ha, Core.ended, hl, hi, hr, hp]
    rw [e]
    exact (Turn.ends (k := c.core) _ _ _ _ (endMap_cases fun h => absurd h ho)
      (by simp [Core.sweeping, Core.ended]) (sends_park _)).turns

/-! ### Beginnings of work -/

theorem Work.isJog_iff {w : Work} : w.isJog = true ↔ ∃ h z, w.job = .jog h z := by
  unfold Work.isJog
  split <;> simp_all

/-- All that the beginning of work does to the core: a plain phase, and for a JOG step perhaps the loop head. -/
theorem beginWork_core (w : Work) (c : Ctx) : ∃ p l s, (beginWork w c).core =
    { c.core with work := some { w with phase := p }, loopHead := l, selHead := s } ∧
      Phase.plain p = true ∧
      ((l = c.bay.ctrl.loopHead ∧ s = c.bay.ctrl.selHead) ∨ (l = s ∧ w.isJog = true)) := by
  unfold beginWork
  split
  · rename_i h z hj
    unfold beginLoopSwitch
    simp only
    split
    · exact ⟨.seek, _, _, rfl, rfl, .inl ⟨rfl, rfl⟩⟩
    · refine ⟨.loopSwitchOut, jobHead w.job c.profile, jobHead w.job c.profile, ?_, rfl, .inr ⟨rfl, Work.isJog_iff.2 ⟨h, z, hj⟩⟩⟩
      rw [startLimit_core, setWork_core, setLoopHead_core]
  · exact ⟨.seek, _, _, rfl, rfl, .inl ⟨rfl, rfl⟩⟩
  · exact ⟨.seek, _, _, rfl, rfl, .inl ⟨rfl, rfl⟩⟩

theorem beginFresh_turns (j : Job) (p : Phase) (c : Ctx) (hr : c.core.Ready m)
    (hl : m = .parts → (∃ h z, j = .offset h z) ∨ j = .visit .onTrigger → c.bay.meas.log ≠ []) :
    Turns m c.core (beginWork (Work.fresh j p) c).core := by
  obtain ⟨q, l, s, e, hq, hh⟩ := beginWork_core (Work.fresh j p) c
  rw [e]
  refine (Turn.begins { Work.fresh j p with phase := q } l s hr rfl hq (fun hm ho => hl hm ?_) hh).turns
  refine ho.imp (fun h => ?_) id
  cases j <;> simp [Work.isOffset, Work.fresh] at h ⊢

theorem beginVisit_turns (k : VisitKind) (c : Ctx) (hr : c.core.Ready m)
    (hl : m = .parts → k = .onTrigger → c.bay.meas.log ≠ []) :
    Turns m c.core (beginVisit k c).core :=
  beginFresh_turns _ _ c hr fun hm h => hl hm (by simpa using h)

/-! ### The step boundary -/

theorem Core.Ready.of_eq {k k' : Core} (h : k.Ready m) (ha : k'.active = k.active)
    (hw : k'.work = k.work ∨ k'.work = none) (hs : k'.state = k.state) : k'.Ready m :=
  ⟨fun hm => ha ▸ h.active hm, fun hm => hw.elim (fun e => e ▸ h.idle hm) id, fun hm => hs ▸ h.moving hm⟩

/-- What holds of a boundary that goes on to step 4: nothing of the core has changed and the log is not empty. -/
structure GoesOn (c d : Ctx) : Prop where
  core : d.core = c.core
  logged : c.bay.meas.log ≠ []

theorem boundaryStep3_turns (c : Ctx) (hr : c.core.Ready m) :
    Turns m c.core (boundaryStep3 c).1.core ∧ ((boundaryStep3 c).2 = true → GoesOn c (boundaryStep3 c).1) := by
  unfold boundaryStep3
  split
  · exact ⟨beginVisit_turns _ c hr (fun _ h => nomatch h), nofun⟩
  · rename_i hl
    have hl : c.bay.meas.log ≠ [] := by simpa using hl
    simp only
    split
    · exact ⟨beginVisit_turns .onTrigger (testTriggers c) hr (fun _ _ => hl), nofun⟩
    · exact ⟨.refl, fun _ => ⟨rfl, hl⟩⟩

theorem boundaryStep23_turns (c : Ctx) (hr : c.core.Ready m) :
    Turns m c.core (boundaryStep23 c).1.core ∧
      ((boundaryStep23 c).2 = true → GoesOn c (boundaryStep23 c).1) := by
  unfold boundaryStep23
  split
  · exact ⟨endSweep_turns _ c nofun nofun, nofun⟩
  · split
    · exact boundaryStep3_turns c hr
    · exact ⟨(Turn.holds hr).turns, nofun⟩

@[simp] theorem writeResult_core (h z : Nat) (r : StepResult) (c : Ctx) :
    (writeResult h z r c).core = { c.core with map := written c.bay.map h z r } := by
  unfold writeResult written
  simp only
  split
  · rfl
  · split <;> split <;> simp

@[simp] theorem writeStep_core (h z : Nat) (r : StepResult) (c : Ctx) :
    (writeStep h z r c).core = { c.core with work := none, map := written c.bay.map h z r } := by
  simp [writeStep]

/-- What holds of a step that does not measure, on going on to the next boundary. -/
structure Stepped (c d : Ctx) : Prop where
  active : d.bay.sweep.active = c.bay.sweep.active
  work : d.bay.sweep.work = c.bay.sweep.work ∨ d.bay.sweep.work = none
  state : d.bay.ctrl.state = c.bay.ctrl.state
  log : d.bay.meas.log = c.bay.meas.log

theorem Stepped.of_core {c d : Ctx} {w : Option Work} {t : Table Entry} {n : Nat}
    (e : d.core = { c.core with work := w, map := t, seqNext := n })
    (h : w = c.bay.sweep.work ∨ w = none) : Stepped c d where
  active := congrArg Core.active e
  work := by
    have hw : d.bay.sweep.work = w := congrArg Core.work e
    exact hw ▸ h
  state := congrArg Core.state e
  log := congrArg Core.log e

theorem takeMeasuring_turns (jog : Bool) (h z : Nat) (c : Ctx) (hr : c.core.Ready m)
    (hl : m = .parts → c.bay.meas.log ≠ []) :
    Turns m c.core (takeMeasuring jog h z c).1.core ∧
      ((takeMeasuring jog h z c).2 = true → Stepped c (takeMeasuring jog h z c).1) := by
  have failed (x : Cause) :
      (if jog = true then StepResult.jog (failedJog x c.sweep.number none none)
        else .offset (failedOffset x c.sweep.number none none)).provisional = false := by
    cases jog <;> rfl
  unfold takeMeasuring
  simp only
  split
  · exact ⟨.refl, fun _ => ⟨rfl, .inl rfl, rfl, rfl⟩⟩
  · split
    · rw [writeStep_core]
      exact ⟨(Turn.writes h z _ hr (failed _)).turns, fun _ => .of_core (writeStep_core h z _ c) (.inr rfl)⟩
    · split
      · rw [writeStep_core]
        exact ⟨(Turn.writes h z _ hr (failed _)).turns, fun _ => .of_core (writeStep_core h z _ c) (.inr rfl)⟩
      · split
        · exact ⟨beginFresh_turns _ _ c hr (fun _ hj => by simp at hj), nofun⟩
        · split
          · rw [writeStep_core]
            refine ⟨.head (.numbers) (Turn.writes h z _ ?_ rfl).turns,
              fun _ => .of_core (writeStep_core h z _ _) (.inr rfl)⟩
            exact hr.of_eq rfl (.inl rfl) rfl
          · exact ⟨beginFresh_turns _ _ c hr (fun hm _ => hl hm), nofun⟩

theorem takeStep_turns (r : StepRec) (c : Ctx) (hr : c.core.Ready m)
    (hl : m = .parts → c.bay.meas.log ≠ []) :
    Turns m c.core (takeStep r c).1.core ∧ ((takeStep r c).2 = true → Stepped c (takeStep r c).1) := by
  unfold takeStep
  split
  · exact ⟨beginVisit_turns _ c hr (fun _ h => nomatch h), nofun⟩
  · exact takeMeasuring_turns _ _ _ c hr hl
  · exact takeMeasuring_turns _ _ _ c hr hl

/-! ### Plans, probes and the resume stack -/

/-- The law of the stack while a probe just taken may have all its eight steps. -/
def stackFits (stack : List Plan) (plan : Option Plan) : Prop :=
  stack.length ≤ Config.stackDepth ∧ (∀ p ∈ stack, p.stepsLeft 1 = true) ∧
    ∀ id steps, plan = some (.probe id steps) → steps.length ≤ Config.probeSteps

theorem Plan.stepsLeft_one {store : List StepRec} {p : Plan} (h : p.stepsLeft 0 = true)
    (hn : (nextOf store p).isSome = true) : p.stepsLeft 1 = true := by
  cases p with
  | base i => rfl
  | probe id steps => cases steps <;> simp_all [nextOf, Plan.stepsLeft]

/-- The plan after a step is taken has at most seven steps left. -/
theorem nextOf_stepsLeft {store : List StepRec} {p p' : Plan} {r : StepRec}
    (h : nextOf store p = some (r, p')) (hp : ∀ id steps, p = .probe id steps → steps.length ≤ 8) :
    p'.stepsLeft 0 = true := by
  cases p with
  | base i =>
    simp only [nextOf] at h
    split at h
    · injection h with h
      injection h with _ h
      rw [← h]
      rfl
    · exact nomatch h
  | probe id steps =>
    cases steps with
    | nil => exact nomatch h
    | cons x xs =>
      injection h with h
      injection h with _ h
      rw [← h]
      have := hp id (x :: xs) rfl
      simp only [List.length_cons] at this
      simp only [Plan.stepsLeft, Bool.and_eq_true, decide_eq_true_eq]
      omega

theorem chooseStep_stackLaw {store : List StepRec} {stack : List Plan} {cur : Option Plan} {b : BasePlan}
    (h : stackFits stack cur) : (chooseStep store stack cur b).stack.length ≤ Config.stackDepth ∧
      (∀ p ∈ (chooseStep store stack cur b).stack, p.stepsLeft 1 = true) ∧
      ∀ p ∈ (chooseStep store stack cur b).plan, p.stepsLeft 0 = true := by
  have taken {cur : Option Plan} {r : StepRec} {p : Plan} (hb : cur.bind (nextOf store) = some (r, p))
      (hp : ∀ id steps, cur = some (.probe id steps) → steps.length ≤ Config.probeSteps) :
      p.stepsLeft 0 = true := by
    obtain ⟨q, rfl, hq⟩ := Option.bind_eq_some_iff.1 hb
    exact nextOf_stepsLeft hq fun id steps e => hp id steps (by rw [e])
  induction stack generalizing cur b with
  | nil =>
    obtain ⟨_, _, hp⟩ := h
    unfold chooseStep
    split
    · rename_i hb
      exact ⟨Nat.zero_le _, nofun, by rintro _ ⟨⟩; exact taken hb hp⟩
    · exact ⟨Nat.zero_le _, nofun, nofun⟩
  | cons top rest ih =>
    obtain ⟨hlen, hmem, hp⟩ := h
    unfold chooseStep
    split
    · rename_i hb
      exact ⟨hlen, hmem, by rintro _ ⟨⟩; exact taken hb hp⟩
    · refine ih ⟨Nat.le_of_succ_le hlen, fun p h => hmem p (List.mem_cons_of_mem _ h), ?_⟩
      intro id steps e
      injection e with e
      have := hmem top (by simp)
      simp only [e, Plan.stepsLeft, Bool.and_eq_true, decide_eq_true_eq] at this
      exact this.2.trans (by decide)

theorem pushPlan_core (p : Plan) (c : Ctx) : ∃ st, (pushPlan p c).core = { c.core with stack := st } ∧
    (c.bay.sweep.stack.length ≤ Config.stackDepth → st.length ≤ Config.stackDepth) ∧
    ∀ q ∈ st, q ∈ c.bay.sweep.stack ∨ q = p := by
  unfold pushPlan
  split
  · rename_i hlt
    refine ⟨p :: c.bay.sweep.stack, rfl, fun _ => hlt, fun q hq => ?_⟩
    exact (List.mem_cons.1 hq).symm
  · rename_i hge
    refine ⟨p :: c.bay.sweep.stack.dropLast, ?_, fun hle => ?_, fun q hq => ?_⟩
    · simp
    · simp only [List.length_cons, List.length_dropLast, Config.stackDepth] at hle hge ⊢
      omega
    · exact (List.mem_cons.1 hq).symm.imp List.mem_of_mem_dropLast id

theorem takeProbe_core (c : Ctx) : ∃ st pl, (takeProbe c).core =
    { c.core with stack := st, plan := pl, probe := none } ∧ (c.core.stackLaw → stackFits st pl) := by
  unfold takeProbe
  split
  · rename_i hp
    refine ⟨c.bay.sweep.stack, c.bay.sweep.plan, by rw [← show c.bay.sweep.probe = none from hp]; rfl, ?_⟩
    rintro ⟨hlen, hst, hpl, _⟩
    refine ⟨hlen, hst, fun id steps e => ?_⟩
    have := hpl _ e
    simp only [Plan.stepsLeft, Bool.and_eq_true, decide_eq_true_eq] at this
    exact this.2.trans (by decide)
  · rename_i id steps hp
    have fits {st : List Plan} (hlaw : c.core.stackLaw) (hlen : st.length ≤ Config.stackDepth)
        (hmem : ∀ p ∈ st, p.stepsLeft 1 = true) : stackFits st (some (.probe id steps)) := by
      refine ⟨hlen, hmem, fun id' steps' e => ?_⟩
      injection e with e
      injection e with _ e
      exact e ▸ (hlaw.2.2.2 (id, steps) hp).2
    simp only
    split
    · exact ⟨c.bay.sweep.stack, _, rfl, fun h => fits h h.1 h.2.1⟩
    · rename_i p hpl
      split
      · rename_i hn
        obtain ⟨st, e, h1, h2⟩ := pushPlan_core p c
        refine ⟨st, some (.probe id steps), ?_, fun h => fits h (h1 h.1) fun q hq => ?_⟩
        · have hst : (pushPlan p c).bay.sweep.stack = st := congrArg Core.stack e
          rw [setSweep_core, e]
          have h1 : (pushPlan p c).bay.sweep.active = c.core.active := congrArg Core.active e
          have h2 : (pushPlan p c).bay.sweep.work = c.core.work := congrArg Core.work e
          have h3 : (pushPlan p c).bay.sweep.seqNext = c.core.seqNext := congrArg Core.seqNext e
          simp only [Ctx.sweep_eq, h1, h2, h3, hst]
        · rcases h2 q hq with hq | rfl
          · exact h.2.1 q hq
          · exact Plan.stepsLeft_one (h.2.2.1 q hpl) hn
      · exact ⟨c.bay.sweep.stack, _, rfl, fun h => fits h h.1 h.2.1⟩

/-- The bay at work with the plan, stack and standing that step 5 of the boundary chose. -/
def chosen (c : Ctx) : Ctx :=
  let c1 := takeProbe c
  let k := chooseStep c1.bay.store c1.sweep.stack c1.sweep.plan c1.sweep.basePlan
  c1.setSweep { c1.sweep with plan := k.plan, stack := k.stack, basePlan := k.basePlan }

theorem chosen_core (c : Ctx) : ∃ st pl, (chosen c).core =
    { c.core with stack := st, plan := pl, probe := none } ∧
    (c.core.stackLaw → { c.core with stack := st, plan := pl, probe := none }.stackLaw) := by
  obtain ⟨st, pl, e, hfits⟩ := takeProbe_core c
  refine ⟨(chosen c).bay.sweep.stack, (chosen c).bay.sweep.plan, ?_, fun h => ?_⟩
  · have h1 : (takeProbe c).bay.sweep.active = c.core.active := congrArg Core.active e
    have h2 : (takeProbe c).bay.sweep.work = c.core.work := congrArg Core.work e
    have h3 : (takeProbe c).bay.sweep.seqNext = c.core.seqNext := congrArg Core.seqNext e
    have h4 : (takeProbe c).bay.sweep.probe = none := congrArg Core.probe e
    simp only [chosen, setSweep_core, e, Ctx.sweep_eq, h1, h2, h3, h4, Ctx.setSweep_bay_sweep]
  · have hst : (takeProbe c).bay.sweep.stack = st := congrArg Core.stack e
    have hpl : (takeProbe c).bay.sweep.plan = pl := congrArg Core.plan e
    have := hfits h
    rw [← hst, ← hpl] at this
    obtain ⟨h1, h2, h3⟩ := chooseStep_stackLaw (store := (takeProbe c).bay.store)
      (b := (takeProbe c).bay.sweep.basePlan) this
    exact ⟨h1, h2, h3, nofun⟩

theorem boundaryStep45_turns (n : Nat) (c : Ctx) (hr : c.core.Ready m)
    (hl : m = .parts → c.bay.meas.log ≠ []) : Turns m c.core (boundaryStep45 n c).core := by
  induction n generalizing c with
  | zero => exact .refl
  | succ n ih =>
    obtain ⟨st, pl, e, hlaw⟩ := chosen_core c
    have hplans : Turns m c.core (chosen c).core := e ▸ (Turn.plans st pl none hlaw).turns
    have hr' : (chosen c).core.Ready m := by
      rw [e]
      exact hr.of_eq rfl (.inl rfl) rfl
    have hlog : (chosen c).bay.meas.log = c.bay.meas.log := congrArg Core.log e
    have hl' : m = .parts → (chosen c).bay.meas.log ≠ [] := hlog ▸ hl
    unfold boundaryStep45
    simp only
    change Turns m c.core (Ctx.core (match (chooseStep _ _ _ _).step with
      | some r => if (takeStep r (chosen c)).2 = true then
          if (boundaryStep23 (takeStep r (chosen c)).1).2 = true then
            boundaryStep45 n (boundaryStep23 (takeStep r (chosen c)).1).1
          else (boundaryStep23 (takeStep r (chosen c)).1).1
        else (takeStep r (chosen c)).1
      | none => if anyProvisional (chosen c).bay.map = true then beginVisit .closing (chosen c)
        else endSweep .complete (chosen c)))
    refine hplans.trans ?_
    split
    · rename_i r _
      obtain ⟨htake, hnext⟩ := takeStep_turns r (chosen c) hr' hl'
      split
      · rename_i hgo
        obtain ⟨ha, hw, hs, hlog'⟩ := hnext hgo
        have hr'' : (takeStep r (chosen c)).1.core.Ready m := hr'.of_eq ha hw hs
        obtain ⟨hbound, hon⟩ := boundaryStep23_turns (takeStep r (chosen c)).1 hr''
        split
        · rename_i hgo'
          obtain ⟨hcore, hlogged⟩ := hon hgo'
          have hlog'' : (boundaryStep23 (takeStep r (chosen c)).1).1.bay.meas.log =
            (takeStep r (chosen c)).1.bay.meas.log := congrArg Core.log hcore
          exact htake.trans (hbound.trans (ih _ (by rw [hcore]; exact hr'') fun _ => hlog'' ▸ hlogged))
        · exact htake.trans hbound
      · exact htake
    · split
      · exact beginVisit_turns _ _ hr' fun _ h => nomatch h
      · rename_i hany
        exact endSweep_turns _ _ nofun fun _ => by simpa using hany

theorem boundaryFrom4_turns (c : Ctx) (hr : c.core.Ready m) (hl : m = .parts → c.bay.meas.log ≠ []) :
    Turns m c.core (boundaryFrom4 c).core := boundaryStep45_turns _ c hr hl

/-- A boundary whose steps before the fourth are `t` goes on from the fourth when `t` says so. -/
theorem boundary_turns_of {c : Ctx} (t : Ctx × Bool) (hr : c.core.Ready m)
    (h : Turns m c.core t.1.core ∧ (t.2 = true → GoesOn c t.1)) :
    Turns m c.core (if t.2 = true then boundaryFrom4 t.1 else t.1).core := by
  obtain ⟨hturns, hon⟩ := h
  split
  · rename_i hgo
    obtain ⟨hcore, hlogged⟩ := hon hgo
    have hlog : t.1.bay.meas.log = c.bay.meas.log := congrArg Core.log hcore
    exact hturns.trans (boundaryFrom4_turns _ (by rw [hcore]; exact hr) fun _ => hlog ▸ hlogged)
  · exact hturns

theorem boundaryFrom3_turns (c : Ctx) (hr : c.core.Ready m) : Turns m c.core (boundaryFrom3 c).core :=
  boundary_turns_of _ hr (boundaryStep3_turns c hr)

theorem boundary_turns (c : Ctx) (hr : c.core.Ready m) : Turns m c.core (boundary c).core :=
  boundary_turns_of _ hr (boundaryStep23_turns c hr)

/-! ### The end of a step or visit -/

/-- Work of a tidy bay is in flight. -/
structure InFlight (m : Mode) (c : Ctx) (w : Work) : Prop where
  work : c.bay.sweep.work = some w
  tidy : c.core.Tidy m

theorem InFlight.of_core {c d : Ctx} {w : Work} (h : InFlight m c w) (e : d.core = c.core) :
    InFlight m d w := ⟨(congrArg Core.work e).trans h.work, e ▸ h.tidy⟩

/-- When work in flight has ended, the boundary may begin other work. -/
theorem InFlight.ready {c : Ctx} {w : Work} (h : InFlight m c w) {k : Core} (ha : k.active = c.core.active)
    (hw : k.work = none) (hs : k.state = c.core.state) : k.Ready m :=
  ⟨fun hm => ha ▸ h.tidy.working hm (by simp [h.work]), fun _ => hw,
    fun hm => hs ▸ h.tidy.moving hm (by simp [h.work])⟩

theorem stepEnds_turns {c : Ctx} {w : Work} (h z : Nat) (r : StepResult) (hf : InFlight m c w)
    (he : w.mayEnd c.core) (hr : r.isOf w) : Turns m c.core (stepEnds h z r c).core := by
  have e := writeStep_core h z r c
  refine .head (.finishes w _ hf.work he (.inr ⟨h, z, r, rfl, hr⟩)) ?_
  refine e ▸ boundary_turns (writeStep h z r c) ?_
  exact hf.ready (congrArg Core.active e :) (congrArg Core.work e :) (congrArg Core.state e :)

theorem afterInline_turns (c : Ctx) (hr : c.core.Ready m) (hl : m = .parts → c.bay.meas.log ≠ []) :
    Turns m c.core (afterInline c).core := by
  unfold afterInline
  split
  · exact endSweep_turns _ c nofun nofun
  · exact boundaryFrom4_turns c hr hl

/-- What follows a visit that failed without ending the sweep. -/
theorem afterVisit_failed_turns (k : VisitKind) (c : Ctx) (hr : c.core.Ready m)
    (hl : m = .parts → k = .onTrigger → c.bay.meas.log ≠ []) :
    Turns m c.core (afterVisit k false c).core := by
  unfold afterVisit
  split
  · exact boundary_turns c hr
  · exact afterInline_turns c hr fun hm => hl hm rfl
  · exact boundary_turns c hr
  · exact boundary_turns c hr

theorem visitEnds_failed_turns {c : Ctx} {w : Work} {k : VisitKind} (hf : InFlight m c w)
    (hj : w.job = .visit k) (he : w.mayEnd c.core) : Turns m c.core (visitEnds k none c).core := by
  refine .head (.finishes w c.core.map hf.work he (.inl rfl)) ?_
  unfold visitEnds
  simp only
  generalize hd : countPlanned k _ = d
  have e : d.core = { c.core with work := none } := by
    rw [← hd, countPlanned_core]
    rfl
  rw [show ({ c.core with work := none, map := c.core.map } : Core) = d.core from e.symm]
  split
  · exact endSweep_turns _ _ nofun nofun
  · refine afterVisit_failed_turns k d ?_ fun hm hk => ?_
    · exact hf.ready (congrArg Core.active e :) (congrArg Core.work e :) (congrArg Core.state e :)
    · have hlog : d.bay.meas.log = c.bay.meas.log := congrArg Core.log e
      exact hlog ▸ hf.tidy.logged hm w (by simp [hf.work]) (hk ▸ hj)

@[simp] theorem correctDrift_core (a b : RefRecord) (ref0 : Int) (c : Ctx) :
    (correctDrift a b ref0 c).core = { c.core with
      map := mapProvisional (fun x => x.corrected (interp a b (x.seq.getD 0) - ref0)
        (driftExceeds c.bay.profile a b)) c.bay.map } := by
  unfold correctDrift
  simp only
  split <;> simp

@[simp] theorem visitSucceeds_core (r : RefRecord) (c : Ctx) : (visitSucceeds r c).core =
    { c.core with log := appendLog c.bay.meas.log r
                  map := correctedMap c.bay.profile c.bay.meas.log r c.bay.map } := by
  unfold visitSucceeds correctedMap
  cases ha : c.bay.meas.log.getLast? <;> cases hf : c.bay.meas.log.head? <;> simp [ha, hf]
  rename_i a first
  exact congrArg Core.log (correctDrift_core a r first.value _)

theorem visitEnds_succeeded_turns {c : Ctx} {w : Work} {k : VisitKind} (r : RefRecord)
    (hf : InFlight m c w) (hj : w.job = .visit k) (hp : w.phase = .retHead) (hs : r.seq = w.seq.getD 0) :
    Turns m c.core (visitEnds k (some r) c).core := by
  have hv : w.isVisit = true := by simp [Work.isVisit, hj]
  unfold visitEnds
  simp only
  generalize hd : countPlanned k _ = d
  have e : d.core = c.core.visited r := by
    rw [← hd, countPlanned_core, visitSucceeds_core]
    rfl
  have hready : d.core.Ready m :=
    hf.ready (congrArg Core.active e :) (congrArg Core.work e :) (congrArg Core.state e :)
  have hlog : d.bay.meas.log ≠ [] := by
    have : d.bay.meas.log = appendLog c.bay.meas.log r := congrArg Core.log e
    rw [this]
    exact appendLog_ne_nil _ _
  have hvisited : Turns m c.core d.core := e ▸ (Turn.visits w r hf.work hv hp hs).turns
  unfold afterVisit
  split
  · exact hvisited.trans (boundaryFrom4_turns d hready fun _ => hlog)
  · exact hvisited.trans (afterInline_turns d hready fun _ => hlog)
  · obtain ⟨st, i, he, hpl⟩ := endSweep_core .complete d nofun
    have hm : d.bay.map = (c.core.visited r).map := congrArg Core.map e
    have hc : d.bay.ctrl.command = c.core.command := congrArg Core.command e
    simp only [if_true]
    rw [he, e, endMap, if_pos rfl, hm, hc]
    exact (Turn.closes w r st i _ hf.work hv hp hs (not_sweeping_of_place hpl)
      (sends_command_of_place hpl)).turns
  · exact hvisited.trans (boundary_turns d hready)

/-! ### Offset measurements -/

theorem measurementFails_turns {c : Ctx} {w : Work} (cause : Cause) (hf : InFlight m c w)
    (he : w.mayEnd c.core) : Turns m c.core (measurementFails w cause c).core := by
  unfold measurementFails
  split
  · exact stepEnds_turns _ _ _ hf he nofun
  · exact visitEnds_failed_turns hf ‹_› he
  · exact stepEnds_turns _ _ _ hf he nofun

theorem measurementForms_turns {c : Ctx} {w : Work} (a b : WindowResult) (hf : InFlight m c w)
    (hp : w.phase = .retHead) : Turns m c.core (measurementForms w a b c).core := by
  unfold measurementForms
  split
  · split
    · exact visitEnds_succeeded_turns _ hf ‹_› hp rfl
    · exact visitEnds_failed_turns hf ‹_› (.inl hp)
  · rename_i h z hj
    refine stepEnds_turns _ _ _ hf (.inl hp) fun _ => ⟨?_, ?_, _, rfl, rfl⟩
    · simp [Work.isOffset, hj]
    · simp [hp, Phase.measuring]
  · exact .refl

theorem returnEnds_turns {c : Ctx} {w : Work} (hf : InFlight m c w) (hp : w.phase = .retHead) :
    Turns m c.core (returnEnds w c).core := by
  have hf' : InFlight m (unfreeze c) w := hf.of_core rfl
  unfold returnEnds
  simp only
  split
  · exact measurementFails_turns (c := unfreeze c) _ hf' (.inl hp)
  · exact measurementForms_turns (c := unfreeze c) _ _ hf' hp
  · exact measurementFails_turns (c := unfreeze c) _ hf' (.inl hp)

/-! ### JOG steps -/

theorem beginReturnSwitch_turns {c : Ctx} {w w' : Work} (x : JogPart) (hf : InFlight m c w)
    (hc : w.Carries w') (hp : w.phase.plain = true) :
    Turns m c.core (beginReturnSwitch w' x c).core := by
  have goesBack (d : Ctx) (e : d.core = c.core) : Turns m c.core (Ctx.core
      (if d.profile.refHead = d.ctrl.loopHead ∧ d.ctrl.targetNow.isSome then
        match w'.job with
        | .jog h z => stepEnds h z (.jog x) (startLimit d)
        | _ => d
      else startLimit (setWork { w' with phase := .loopSwitchBack, formed := some x }
        (setLoopHead d.profile.refHead d)))) := by
    split
    · rename_i hh
      split
      · rename_i h z _
        have hf' : InFlight m (startLimit d) w := hf.of_core e
        have hend : w.mayEnd (startLimit d).core :=
          .inr ⟨(Phase.switched_of_plain hp).1, fun _ => hh.1.symm⟩
        have hturns := stepEnds_turns h z (.jog x) hf' hend nofun
        rwa [startLimit_core, e] at hturns
      · exact .of_eq e
    · have hpr : d.bay.profile = c.bay.profile := congrArg Core.profile e
      rw [startLimit_core, setWork_core, setLoopHead_core, e, Ctx.profile_eq, hpr]
      exact (Turn.handsBack w { w' with phase := .loopSwitchBack, formed := some x } hf.work
        ⟨hc.job, hc.seq⟩ hp rfl).turns
  exact goesBack (nameTarget (jobZone w'.job c).centre (endWrite (closeCapture c))) rfl

theorem jogFails_turns {c : Ctx} {w : Work} (cause : Cause) (hf : InFlight m c w)
    (hp : w.phase.plain = true) : Turns m c.core (jogFails w cause c).core :=
  beginReturnSwitch_turns _ hf ⟨rfl, rfl⟩ hp

theorem plainPhase_turns {k : Core} {w w' : Work} (hw : k.work = some w) (hc : w.Carries w')
    (hp : w.phase.plain = true) (hp' : w'.phase.plain = true) : Turns m k { k with work := some w' } :=
  (Turn.goesOn w w' k.seqNext hw hc.job (.inl ⟨hc.seq, rfl⟩) hp (.inl hp')).turns

theorem readEnds_turns {c : Ctx} {w w' : Work} (k : Nat) (hf : InFlight m c w) (hc : w.Carries w')
    (hp : w.phase.plain = true) : Turns m c.core (readEnds w' k c).core := by
  unfold readEnds
  simp only
  split
  · exact plainPhase_turns hf.work (w' := { w' with results := _, phase := .move (k + 1) })
      ⟨hc.job, hc.seq⟩ hp rfl
  · exact beginReturnSwitch_turns (c := closeCapture c) _ (hf.of_core rfl) ⟨hc.job, hc.seq⟩ hp

/-! ### Received bits -/

/-- The core with the running counters counted on by a lawful change. -/
def Counted (c d : Ctx) : Prop :=
  ∃ r, d.core = { c.core with running := r } ∧ (c.bay.pattern.running.lawful → r.lawful)

theorem Counted.refl {c d : Ctx} (h : d.core = c.core) : Counted c d := ⟨c.core.running, h, id⟩

theorem Counted.trans {c d e : Ctx} (h1 : Counted c d) (h2 : Counted d e) : Counted c e := by
  obtain ⟨r1, e1, l1⟩ := h1
  obtain ⟨r2, e2, l2⟩ := h2
  have hr : d.bay.pattern.running = r1 := congrArg Core.running e1
  exact ⟨r2, by rw [e2, e1], fun h => l2 (hr ▸ l1 h)⟩

theorem Counted.turns {c d : Ctx} (h : Counted c d) : Turns m c.core d.core := by
  obtain ⟨r, e, hl⟩ := h
  exact e ▸ (Turn.counts r hl).turns

theorem compareBit_lawful (p : Pattern) (bit : Bool) (h : p.running.lawful) :
    (p.compareBit bit).running.lawful := by
  obtain ⟨h1, h2⟩ := h
  simp only [Pattern.compareBit, Counters.lawful, satInc]
  split <;> split <;> (try split) <;> omega

theorem testWindow_lawful (p : Pattern) (h : p.running.lawful) : p.testWindow.1.running.lawful := by
  unfold Pattern.testWindow
  split
  · exact h
  · split <;> exact h

theorem lockedBit_counted (bit : Bool) (c : Ctx) : Counted c (lockedBit bit c) := by
  refine ⟨(c.pattern.compareBit bit).testWindow.1.running, ?_,
    fun h => testWindow_lawful _ (compareBit_lawful _ bit h)⟩
  unfold lockedBit
  simp only
  split <;> split <;> simp

theorem feedBit_counted (c : Ctx) (bit : Bool) : Counted c (feedBit c bit) := by
  unfold feedBit
  split
  · exact .refl rfl
  · refine .refl ?_
    rw [setPattern_core]
    unfold Pattern.checkBit
    simp only
    split <;> split <;> rfl
  · exact lockedBit_counted bit c

theorem feedBits_counted (bits : List Bool) (c : Ctx) : Counted c (feedBits bits c) := by
  unfold feedBits
  induction bits generalizing c with
  | nil => exact .refl rfl
  | cons b bs ih => exact (feedBit_counted c b).trans (ih _)

theorem takeBlock_counted (c : Ctx) (bits : List Bool) : Counted c (takeBlock c bits) := by
  refine (feedBits_counted bits c).trans (.refl ?_)
  unfold takeBlock
  simp only
  split <;> rfl

theorem takeLoop_counted (c : Ctx) : Counted c (takeLoop c) := by
  unfold takeLoop
  generalize List.take _ _ = l
  induction l generalizing c with
  | nil => exact .refl rfl
  | cons b bs ih => exact (takeBlock_counted c b).trans (ih _)

theorem InFlight.of_turns {c d : Ctx} {w w' : Work} (h : InFlight m c w) (ht : Turns m c.core d.core)
    (hw : d.bay.sweep.work = some w') : InFlight m d w' := ⟨hw, ht.tidy h.tidy⟩

theorem Counted.work {c d : Ctx} (h : Counted c d) : d.bay.sweep.work = c.bay.sweep.work := by
  obtain ⟨r, e, _⟩ := h
  exact congrArg Core.work e

theorem beginRead_turns {c : Ctx} {w w' : Work} (k : Nat) (hf : InFlight m c w) (hc : w.Carries w')
    (hp : w.phase.plain = true) : Turns m c.core (beginRead w' k c).core := by
  have hopen : Turns m c.core (openCapture (setWork { w' with phase := .read k } c)).core :=
    plainPhase_turns hf.work (w' := { w' with phase := .read k }) ⟨hc.job, hc.seq⟩ hp rfl
  unfold beginRead
  simp only
  split
  · exact hopen
  · have htake := takeLoop_counted (openCapture (setWork { w' with phase := .read k } c))
    have hto := hopen.trans htake.turns
    exact hto.trans (readEnds_turns k (hf.of_turns hto htake.work) ⟨rfl, rfl⟩ rfl)

/-! ### Settling -/

/-- The stamp takes the counter's number or keeps the one held. -/
theorem stamp_core (w : Work) (c : Ctx) : ∃ n, (stamp w c).2.core = { c.core with seqNext := n } ∧
    (stamp w c).1.job = w.job ∧ (stamp w c).1.seq ≠ none ∧
    (((stamp w c).1.seq = w.seq ∧ n = c.core.seqNext) ∨
      ((stamp w c).1.seq = some c.core.seqNext ∧ n = c.core.seqNext + 1)) := by
  unfold stamp
  split
  · rename_i n hn
    exact ⟨c.core.seqNext, rfl, rfl, by simp [hn], .inl ⟨rfl, rfl⟩⟩
  · exact ⟨c.core.seqNext + 1, rfl, rfl, by simp, .inr ⟨rfl, rfl⟩⟩

theorem settleEnds_turns {c : Ctx} {w : Work} (hf : InFlight m c w) (hp : w.phase.plain = true) :
    Turns m c.core (settleEnds w c).core := by
  obtain ⟨n, e, hj, hne, hs⟩ := stamp_core w c
  have plain (p : Phase) (hpl : p.plain = true) :
      Turns m c.core { (stamp w c).2.core with work := some { (stamp w c).1 with phase := p } } :=
    e ▸ (Turn.goesOn w { (stamp w c).1 with phase := p } n hf.work hj hs hp (.inl hpl)).turns
  have averages (hjog : w.isJog = false) : Turns m c.core
      { (stamp w c).2.core with work := some { (stamp w c).1 with phase := .refAvg } } :=
    e ▸ (Turn.goesOn w { (stamp w c).1 with phase := .refAvg } n hf.work hj hs hp
      (.inr ⟨rfl, hne, hjog⟩)).turns
  unfold settleEnds
  simp only
  split
  · unfold beginWritePass
    simp only
    split
    · rw [setWork_core, startPass_core]
      exact plain _ rfl
    · rw [beginMove_core, startPass_core]
      exact plain _ rfl
  · rename_i hw
    exact averages (by simp [Work.isJog, hw])
  · rename_i hw
    exact averages (by simp [Work.isJog, hw])

theorem settleTimesOut_turns {c : Ctx} {w : Work} (hf : InFlight m c w) (hp : w.phase.plain = true) :
    Turns m c.core (settleTimesOut w c).core := by
  have hf' : InFlight m (c.note .settleTimeout) w := hf.of_core rfl
  have hend (hj : w.isJog = false) : w.mayEnd (c.note .settleTimeout).core :=
    .inr ⟨(Phase.switched_of_plain hp).1, fun h => by simp [Work.onMeasured_of_plain hp, hj] at h⟩
  unfold settleTimesOut
  simp only
  split
  · exact jogFails_turns (c := c.note .settleTimeout) _ hf' hp
  · rename_i hw
    exact measurementFails_turns (c := c.note .settleTimeout) _ hf' (hend (by simp [Work.isJog, hw]))
  · rename_i hw
    exact measurementFails_turns (c := c.note .settleTimeout) _ hf' (hend (by simp [Work.isJog, hw]))

end Sys2Proof.Machine

namespace Sys2Proof.Machine

/-! SUPPORT. Samples, timers, fixture records and requests to a bay as changes of the core. -/

variable {m : Mode}

/-- Changes from the core of a bay at work that has the same core. -/
theorem Turns.at {d : Ctx} {k k' : Core} (e : d.core = k) (h : Turns m d.core k') : Turns m k k' := e ▸ h

/-- Changes to a core that is the same. -/
theorem Turns.to {k k' k'' : Core} (h : Turns m k k') (e : k'' = k') : Turns m k k'' := e ▸ h

/-! ### Servo loss -/

/-- A servo loss may come about with the heads together, or in a phase that counts against settle_timeout. -/
def Core.mayLose (k : Core) : Prop :=
  k.selHead = k.loopHead ∨ ∃ w, k.work = some w ∧ (w.phase = .retHead ∨ w.phase.switched = false)

theorem interruptWork_core (c : Ctx) :
    (interruptWork c).core = { c.core with work := c.bay.sweep.work.map Work.interrupted } := by
  have hw : (closeWindow (endWrite (closeCapture c))).bay.sweep.work = c.bay.sweep.work := rfl
  unfold interruptWork
  simp only [setSweep_core, Ctx.sweep_eq, hw]
  cases c.bay.sweep.work <;> rfl

/-- A servo loss of an active sweep interrupts its work or ends the sweep (R147). -/
theorem sweepLoss_cases (c : Ctx) : (c.bay.sweep.active = false ∧ sweepLoss c = c) ∨
    (c.bay.sweep.active = true ∧
      ∃ d : Ctx, d = c.setSweep { c.bay.sweep with retry := c.bay.sweep.retry + 1 } ∧
        (sweepLoss c = interruptWork d ∨ sweepLoss c = endSweep .lostServo d)) := by
  cases ha : c.bay.sweep.active
  · exact .inl ⟨rfl, by simp [sweepLoss, ha]⟩
  · refine .inr ⟨rfl, _, rfl, ?_⟩
    by_cases hr : c.bay.sweep.retry + 1 < Config.retryLimit
    · exact .inl (by simp [sweepLoss, ha, hr])
    · exact .inr (by simp [sweepLoss, ha, hr])

theorem servoLoss_turns (cls : SampleClass) (c : Ctx) (hs : c.bay.ctrl.state.following = true)
    (hh : c.core.mayLose) : Turns m c.core (servoLoss cls c).core := by
  unfold servoLoss
  simp only
  generalize hd : enterAcquire _ _ = d
  have e : d.core = { c.core with state := .acquire, intent := lossIntent c.core.state
                                  command := lossCommand c.core.profile c.core.command } := by
    rw [← hd]
    simp
  have hv : lossCommand c.core.profile c.core.command = 0 ∨
      lossCommand c.core.profile c.core.command = c.core.command := by
    unfold lossCommand
    split
    · exact .inr rfl
    · exact .inl rfl
  have ha : d.bay.sweep.active = c.core.active := congrArg Core.active e
  have hw : d.bay.sweep.work = c.core.work := congrArg Core.work e
  have hloses := (Turn.loses (m := m) (k := c.core) _ hs hh hv).turns
  rcases sweepLoss_cases d with ⟨hact, hd'⟩ | ⟨hact, d', hd', hd''⟩
  · rw [hd', e]
    rw [if_neg (by rw [← ha, hact]; nofun)] at hloses
    exact hloses
  · have e' : d'.core = d.core := by
      rw [hd']
      rfl
    rw [if_pos (ha ▸ hact)] at hloses
    rcases hd'' with hd'' | hd'' <;> rw [hd'']
    · have hw' : d'.bay.sweep.work = c.core.work := (congrArg Core.work e').trans hw
      rw [interruptWork_core, e', e, hw']
      exact hloses
    · have hst : d'.bay.ctrl.state = .acquire := (congrArg Core.state e').trans (congrArg Core.state e)
      obtain ⟨st, i, hend, hp⟩ := endSweep_core .lostServo d' fun _ => hst
      have hcmd : d'.bay.ctrl.command = lossCommand c.core.profile c.core.command :=
        (congrArg Core.command e').trans (congrArg Core.command e)
      have hmap : d'.bay.map = c.core.map := (congrArg Core.map e').trans (congrArg Core.map e :)
      have hsends : c.core.Sends m st (lossCommand c.core.profile c.core.command) := by
        refine ⟨hv.imp (fun h : _ = (0 : Int) => by rw [h]; exact Nat.zero_le _) id, ?_, ?_, fun _ => ?_⟩ <;> rintro rfl <;> simp at hp
      have hturn := (Turn.ends (m := m) (k := c.core) (endMap .lostServo c.core.map) st i _
        (endMap_cases nofun) (not_sweeping_of_place hp) hsends).turns
      refine hturn.to ?_
      rw [hend, e', e, hcmd, hmap]
      rfl

theorem limitSample_turns {c : Ctx} {w : Work} (n : Note) (x : Sample) (hf : InFlight m c w)
    (hs : c.bay.ctrl.state = .sweep) (hp : w.phase = .retHead ∨ w.phase.switched = false) :
    Turns m c.core (limitSample n x c).core := by
  unfold limitSample
  simp only
  split
  · refine .at ?_ (servoLoss_turns x.cls _ ?_ ?_)
    · rfl
    · simp [hs, BayState.following]
    · exact .inr ⟨w, hf.work, hp⟩
  · exact .refl

/-! ### The phases -/

theorem windowCompletes_turns {c : Ctx} {w : Work} (win : Window) (hf : InFlight m c w)
    (hs : c.bay.ctrl.state = .sweep) (hp : w.phase = .refAvg ∨ w.phase = .headAvg) :
    Turns m c.core (windowCompletes w win c).core := by
  unfold windowCompletes
  simp only
  split
  · rename_i hr
    unfold beginSwitch
    rw [headSelect_core, freeze_core, setWork_core]
    exact (Turn.measures w { w with phase := .switch, refResult := _ } _ hf.work ⟨rfl, rfl⟩ hs
      (.inl ⟨hr, rfl⟩)).turns
  · rename_i hr
    have hm : w.phase.measuring = true := by rcases hp with e | e <;> rw [e] <;> rfl
    unfold beginReturn
    rw [startLimit_core, setWork_core, headSelect_core]
    exact (Turn.measures w { w with phase := .retHead, headResult := _ } _ hf.work ⟨rfl, rfl⟩ hs
      (.inr (.inr ⟨hm, rfl, rfl⟩))).turns

theorem windowTimesOut_turns {c : Ctx} {w : Work} (win : Window) (hf : InFlight m c w)
    (hs : c.bay.ctrl.state = .sweep) (hp : w.phase = .refAvg ∨ w.phase = .headAvg) :
    Turns m c.core (windowTimesOut w win c).core := by
  unfold windowTimesOut
  simp only
  split
  · rename_i hr
    refine measurementFails_turns (c := (closeWindow c).note .windowTimeout) _ (hf.of_core rfl)
      (.inr ⟨by rw [hr]; rfl, fun h => ?_⟩)
    simp [Work.onMeasured_of_measuring (w := w) (by rw [hr]; rfl)] at h
  · have hm : w.phase.measuring = true := by rcases hp with e | e <;> rw [e] <;> rfl
    unfold beginReturn
    rw [startLimit_core, setWork_core, headSelect_core]
    exact (Turn.measures w { w with phase := .retHead, cause := _ } _ hf.work ⟨rfl, rfl⟩ hs
      (.inr (.inr ⟨hm, rfl, rfl⟩))).turns

theorem windowAfter_turns {c : Ctx} {w : Work} (win : Window) (hf : InFlight m c w)
    (hs : c.bay.ctrl.state = .sweep) (hp : w.phase = .refAvg ∨ w.phase = .headAvg) :
    Turns m c.core (windowAfter w win c).core := by
  unfold windowAfter
  split
  · exact windowCompletes_turns _ hf hs hp
  · split
    · exact windowTimesOut_turns _ hf hs hp
    · exact .refl

theorem windowSample_turns {c : Ctx} {w : Work} (x : Sample) (b : Bool) (hf : InFlight m c w)
    (hs : c.bay.ctrl.state = .sweep) (hp : w.phase = .refAvg ∨ w.phase = .headAvg) :
    Turns m c.core (windowSample w x b c).core := by
  unfold windowSample
  cases c.meas.window with
  | none => exact .refl
  | some win => exact windowAfter_turns _ hf hs hp

theorem writeMark_turns {c : Ctx} {w : Work} (x : Sample) (hf : InFlight m c w)
    (hp : w.phase.plain = true) : Turns m c.core (writeMark w x c).core := by
  unfold writeMark
  split
  · split
    · exact jogFails_turns (c := (endWrite c).note .writeTimeout) _ (hf.of_core rfl) hp
    · exact .refl
  · exact .refl

theorem captureMark_turns {c : Ctx} {w : Work} (k : Nat) (x : Sample) (hf : InFlight m c w)
    (hp : w.phase.plain = true) : Turns m c.core (captureMark w k x c).core := by
  unfold captureMark
  simp only
  split
  · split
    · refine .at ?_ (readEnds_turns k ?_ ⟨rfl, rfl⟩ hp)
      · rfl
      · exact hf.of_core rfl
    · exact .refl
  · exact .refl

theorem returnSwitchEnds_turns {c : Ctx} {w : Work} (hf : InFlight m c w)
    (hp : w.phase = .loopSwitchBack) : Turns m c.core (returnSwitchEnds w c).core := by
  unfold returnSwitchEnds
  split
  · rename_i h z x hj _
    refine stepEnds_turns h z (.jog x) hf (.inr ⟨by rw [hp]; rfl, fun h => ?_⟩) nofun
    simp [Work.onMeasured, hj, hp] at h
  · exact .refl

theorem engineSample_turns (x : Sample) (n : LoopNews) (c : Ctx) (ht : c.core.Tidy m)
    (hs : c.bay.ctrl.state = .sweep) : Turns m c.core (engineSample x n c).core := by
  unfold engineSample
  split
  · exact .refl
  · rename_i w hw
    have hf : InFlight m c w := ⟨hw, ht⟩
    have goesTo (p : Phase) (hp : w.phase.plain = true) (hp' : p.plain = true) :
        Turns m c.core (setWork { w with phase := p } c).core :=
      plainPhase_turns hf.work (w' := { w with phase := p }) ⟨rfl, rfl⟩ hp hp'
    split
    case h_1 hp =>
      split
      · exact settleEnds_turns hf (by rw [hp]; rfl)
      · split
        · exact settleTimesOut_turns hf (by rw [hp]; rfl)
        · split
          · exact goesTo _ (by rw [hp]; rfl) rfl
          · exact .refl
    case h_2 hp =>
      split
      · exact settleEnds_turns hf (by rw [hp]; rfl)
      · split
        · exact settleTimesOut_turns hf (by rw [hp]; rfl)
        · exact .refl
    case h_3 hp => exact windowSample_turns _ _ hf hs (.inl hp)
    case h_4 => exact .refl
    case h_5 hp => exact windowSample_turns _ _ hf hs (.inr hp)
    case h_6 hp =>
      split
      · exact returnEnds_turns hf hp
      · exact limitSample_turns _ _ hf hs (.inl hp)
    case h_7 hp =>
      split
      · exact goesTo _ (by rw [hp]; rfl) rfl
      · exact limitSample_turns _ _ hf hs (.inr (by rw [hp]; rfl))
    case h_8 hp => exact writeMark_turns _ hf (by rw [hp]; rfl)
    case h_9 k hp =>
      split
      · exact beginRead_turns k hf ⟨rfl, rfl⟩ (by rw [hp]; rfl)
      · split
        · exact settleTimesOut_turns hf (by rw [hp]; rfl)
        · split
          · exact goesTo _ (by rw [hp]; rfl) rfl
          · exact .refl
    case h_10 k hp =>
      split
      · exact beginRead_turns k hf ⟨rfl, rfl⟩ (by rw [hp]; rfl)
      · split
        · exact settleTimesOut_turns hf (by rw [hp]; rfl)
        · exact .refl
    case h_11 k hp => exact captureMark_turns k _ hf (by rw [hp]; rfl)
    case h_12 hp =>
      split
      · exact returnSwitchEnds_turns hf hp
      · exact limitSample_turns _ _ hf hs (.inr (by rw [hp]; rfl))
    case h_13 => exact .refl

theorem engineDiscards_turns (x : Sample) (b : Bool) (c : Ctx) (ht : c.core.Tidy m)
    (hs : c.bay.ctrl.state = .sweep) : Turns m c.core (engineDiscards x b c).core := by
  unfold engineDiscards
  split
  · exact .refl
  · rename_i w hw
    have hf : InFlight m c w := ⟨hw, ht⟩
    have timesOut (hp : w.phase.plain = true) :
        Turns m c.core (if b = true then settleTimesOut w c else c).core := by
      split
      · exact settleTimesOut_turns hf hp
      · exact .refl
    split
    case h_1 hp => exact timesOut (by rw [hp]; rfl)
    case h_2 hp => exact timesOut (by rw [hp]; rfl)
    case h_3 hp => exact windowSample_turns _ _ hf hs (.inl hp)
    case h_4 hp =>
      split
      · exact (Turn.measures w { w with phase := .headAvg } c.core.selHead hf.work ⟨rfl, rfl⟩ hs
          (.inr (.inl ⟨hp, rfl, rfl⟩))).turns
      · exact .refl
    case h_5 hp => exact windowSample_turns _ _ hf hs (.inr hp)
    case h_8 hp => exact writeMark_turns _ hf (by rw [hp]; rfl)
    case h_9 hp => exact timesOut (by rw [hp]; rfl)
    case h_10 hp => exact timesOut (by rw [hp]; rfl)
    case h_11 k hp => exact captureMark_turns k _ hf (by rw [hp]; rfl)
    all_goals exact .refl

/-! ### A delivered sample -/

/-- The loop leaves of the core all but the command. -/
theorem loopReceives_core (x : Sample) (c : Ctx) : ∃ v, (loopReceives x c).1.core = { c.core with command := v } ∧
    (v.natAbs ≤ c.core.profile.currentLimit ∨ v = c.core.command) := by
  have held : ∃ v, (c.setCtrl { c.ctrl with settle := 0 }).core = { c.core with command := v } ∧
      (v.natAbs ≤ c.core.profile.currentLimit ∨ v = c.core.command) := ⟨c.core.command, rfl, .inr rfl⟩
  unfold loopReceives
  simp only
  split
  · exact held
  · split
    · split
      · exact held
      · split
        · exact ⟨c.core.command, rfl, .inr rfl⟩
        · exact held
        · exact ⟨_, rfl, .inl (clampSym_bound _ _)⟩
    · exact held

theorem loopStage_turns (x : Sample) (c : Ctx)
    (hs : c.bay.ctrl.state ≠ .offline ∧ c.bay.ctrl.state ≠ .fault) :
    Turns m c.core (loopStage x c).1.core ∧ (loopStage x c).1.bay.ctrl.state = c.bay.ctrl.state := by
  obtain ⟨v, e, hv⟩ := loopReceives_core x c
  have e' : (loopStage x c).1.core = { c.core with command := v } := by
    rw [← e]
    exact watchCounts_core _
  exact ⟨e' ▸ (Turn.drives v hs hv).turns, congrArg Core.state e'⟩

theorem countLoss_turns (x : Sample) (c : Ctx) (hs : c.bay.ctrl.state.following = true) :
    Turns m c.core (countLoss x c).1.core ∧
      ((countLoss x c).2 = false → (countLoss x c).1.core = c.core) := by
  unfold countLoss
  simp only
  split
  · exact ⟨.refl, fun _ => rfl⟩
  · rename_i hh
    split
    · split
      · refine ⟨.at ?_ (servoLoss_turns x.cls _ ?_ ?_), nofun⟩
        · rfl
        · exact hs
        · exact .inl (by simpa using hh)
      · exact ⟨.refl, fun _ => rfl⟩
    · exact ⟨.refl, fun _ => rfl⟩

theorem followSample_turns (x : Sample) (c : Ctx) (ht : c.core.Tidy m)
    (hs : c.bay.ctrl.state.following = true) : Turns m c.core (followSample x c).core := by
  obtain ⟨hloss, hno⟩ := countLoss_turns (m := m) x c hs
  unfold followSample
  simp only
  split
  · exact hloss
  · rename_i h
    have e := hno (by simpa using h)
    have hst : (countLoss x c).1.bay.ctrl.state = c.bay.ctrl.state := congrArg Core.state e
    obtain ⟨hstage, _⟩ := loopStage_turns (m := m) x (countLoss x c).1
      (by rw [hst]; cases hc : c.bay.ctrl.state <;> simp [hc, BayState.following] at hs ⊢)
    have hto := hloss.trans hstage
    split
    · exact hto.trans (engineSample_turns _ _ _ (Turns.tidy hto ht) ‹_›)
    · exact hto

theorem engineResumes_turns {c d : Ctx} (ht : c.core.Tidy m) (hs : c.bay.ctrl.state = .acquire)
    (hi : c.bay.acq.intent = .sweep) (e : d.core = { c.core with state := .sweep }) :
    Turns m c.core (engineResumes d).core := by
  have hw : d.bay.sweep.work = c.bay.sweep.work := congrArg Core.work e
  unfold engineResumes
  simp only [Ctx.sweep_eq, hw]
  split
  · rename_i w hwork
    obtain ⟨p, l, s, e', hp, hh⟩ := beginWork_core w d
    have hl : d.bay.ctrl.loopHead = c.core.loopHead := congrArg Core.loopHead e
    have hsel : d.bay.ctrl.selHead = c.core.selHead := congrArg Core.selHead e
    rw [hl, hsel] at hh
    rw [e', e]
    exact (Turn.restarts w { w with phase := p } l s hwork ⟨rfl, rfl⟩ hs hi hp hh).turns
  · rename_i hnone
    have hacq : Turns m c.core d.core := e ▸ (Turn.acquires hs hi hnone).turns
    refine hacq.trans (boundary_turns d ⟨fun hm => ?_, fun _ => hw.trans hnone, fun _ => ?_⟩)
    · exact (congrArg Core.active e).trans (ht.sweeping hm (.inr (.inr ⟨hs, hi⟩)))
    · rw [e]
      nofun

theorem acquireSample_turns (x : Sample) (c : Ctx) (ht : c.core.Tidy m)
    (hs : c.bay.ctrl.state = .acquire) : Turns m c.core (acquireSample x c).core := by
  unfold acquireSample
  simp only
  split
  · split
    · unfold acquisitionCompletes
      simp only
      split
      · rename_i hi
        have hi : c.bay.acq.intent = .follow := hi
        have hk : ¬ c.core.sweeping := by simp [Core.sweeping, hs, hi]
        have hplace := (Turn.places (m := m) (k := c.core) .follow c.core.intent c.core.command
          c.core.loopHead c.core.selHead (.inl hk) (by simp [Core.sweeping])
          ⟨.inr rfl, nofun, nofun, nofun⟩ (.inl ⟨rfl, rfl⟩)).turns
        refine Turns.to hplace ?_
        simp [Intent.state, hi]
      · rename_i hi
        have hi : c.bay.acq.intent = .sweep := hi
        refine engineResumes_turns ht hs hi ?_
        simp [Intent.state, hi]
    · exact .refl
  · exact .refl

theorem discardSample_turns (x : Sample) (c : Ctx) (ht : c.core.Tidy m) :
    Turns m c.core (discardSample x c).core := by
  have discards (d : Ctx) (e : d.core = c.core) : Turns m c.core
      (if (watchDiscarded d).1.ctrl.state = .sweep then engineDiscards x (watchDiscarded d).2 (watchDiscarded d).1
        else (watchDiscarded d).1).core := by
    have e' : (watchDiscarded d).1.core = c.core := (watchDiscarded_core d).trans e
    split
    · rename_i hs
      have := engineDiscards_turns x (watchDiscarded d).2 (watchDiscarded d).1 (e' ▸ ht) hs
      rwa [e'] at this
    · exact .of_eq e'
  unfold discardSample
  simp only
  refine discards _ ?_
  split <;> rfl

theorem sampleActs_turns (x : Sample) (c : Ctx) (ht : c.core.Tidy m) :
    Turns m c.core (sampleActs x c).core := by
  unfold sampleActs
  split
  · exact discardSample_turns x c ht
  · split
    case h_3 hs => exact acquireSample_turns x c ht hs
    case h_4 hs => exact followSample_turns x c ht (by rw [show c.bay.ctrl.state = _ from hs]; rfl)
    case h_5 hs => exact followSample_turns x c ht (by rw [show c.bay.ctrl.state = _ from hs]; rfl)
    case h_6 hs => exact followSample_turns x c ht (by rw [show c.bay.ctrl.state = _ from hs]; rfl)
    all_goals exact .refl

theorem completeWedge_turns (w : Wedge) (c : Ctx) (ht : c.core.Tidy m) :
    Turns m c.core (completeWedge w c).core := by
  have e := classify_core c w
  have hturns := sampleActs_turns (classify w c).2 (classify w c).1 (e ▸ ht)
  rw [e] at hturns
  exact hturns

/-! ### The thermal supervisor and the timers -/

theorem resumeIfFree_turns (c : Ctx) (ht : c.core.Tidy m) : Turns m c.core (resumeIfFree c).core := by
  unfold resumeIfFree
  split
  · rename_i h
    have hheld : c.bay.ctrl.state = .held := h.2
    have hfrees : Turns m c.core (c.setCtrl { c.ctrl with state := .sweep }).core := (Turn.frees hheld).turns
    refine hfrees.trans (boundaryFrom3_turns _ ⟨fun hm => ?_, fun hm => ?_, nofun⟩)
    · exact ht.sweeping hm (.inr (.inl hheld))
    · by_contra hw
      exact ht.moving hm hw hheld
  · exact .refl

theorem removeCause_turns (k : HoldCause) (c : Ctx) (ht : c.core.Tidy m) :
    Turns m c.core (removeCause k c).core := by
  unfold removeCause
  split
  · refine .at ?_ (resumeIfFree_turns _ ?_)
    · rfl
    · exact ht
  · exact .refl

theorem evalHold_turns (c : Ctx) (ht : c.core.Tidy m) : Turns m c.core (evalHold c).core := by
  have clears (d : Ctx) (e : d.core = c.core) : Turns m c.core (removeCause .thermal d).core :=
    e ▸ removeCause_turns .thermal d (e ▸ ht)
  unfold evalHold
  simp only
  split
  · exact .refl
  · split
    · split
      · exact clears _ (by simp)
      · exact .refl
    · split
      · exact .of_eq (by simp)
      · exact .refl

theorem afterCutoff_turns (b : Bool) (c : Ctx) : Turns m c.core (afterCutoff b c).core := by
  unfold afterCutoff cutoffRises
  split
  · split
    · exact .refl
    · exact .refl
    · exact enterFault_turns _ c nofun
  · exact .refl

theorem reevaluateThermal_turns (b : Bool) (c : Ctx) (ht : c.core.Tidy m) :
    Turns m c.core (reevaluateThermal b c).core := by
  refine (evalHold_turns c ht).trans ?_
  have := afterCutoff_turns (m := m) b (evalCutoff (evalHold c))
  rwa [evalCutoff_core] at this

theorem takeTemp_turns (t : Int) (c : Ctx) (ht : c.core.Tidy m) : Turns m c.core (takeTemp t c).core := by
  have evaluates (d : Ctx) (e : Turns m c.core d.core) : Turns m c.core
      (afterCutoff (cutoffPresent (evalHold d).profile (evalHold d).thermal) (evalCutoff (evalHold d))).core :=
    e.trans (reevaluateThermal_turns _ d (Turns.tidy e ht))
  unfold takeTemp
  refine evaluates _ ?_
  split
  · refine .at ?_ (removeCause_turns .stale _ ?_)
    · rfl
    · exact ht
  · exact .refl

theorem takeFault_turns (b : Bool) (c : Ctx) (ht : c.core.Tidy m) : Turns m c.core (takeFault b c).core := by
  have acts (d : Ctx) (e : d.core = c.core) (p : Bool) : Turns m c.core (match d.profile.faultLineAction with
      | .none => d
      | .hold => addCause .faultLine d
      | .cutoff => afterCutoff p d).core := by
    split
    · exact .of_eq e
    · exact .of_eq ((addCause_core d _).trans e)
    · exact e ▸ afterCutoff_turns p d
  unfold takeFault
  simp only
  split
  · exact .refl
  · split
    · exact acts _ (by simp) _
    · split
      · exact .refl
      · refine .at ?_ (removeCause_turns .faultLine _ ?_)
        · rfl
        · exact ht
      · exact .refl

theorem tickTimer_turns (k : TimerKind) (c : Ctx) : Turns m c.core (tickTimer k c).core := by
  cases k with
  | acquisition =>
    have expires (d : Ctx) (e : d.core = c.core) : Turns m c.core (acquireExpires d).core := by
      have := enterFault_turns (m := m) .lostServo (raise (.acquireTimeout d.ctrl.selHead d.bay.acq.intent
        d.bay.acq.run d.bay.counter.resolved) d) nofun
      rwa [raise_core, e] at this
    unfold tickTimer tickAcquire
    simp only
    split
    · split
      · exact expires _ rfl
      · exact .refl
    · exact .refl
  | staleness => exact .of_eq (tickStale_core c)
  | revisit => exact .of_eq (tickRevisit_core c)

/-! ### Fixture records -/

theorem takeWedge_core (w : Wedge) (c : Ctx) : (takeWedge w c).core = c.core := by
  unfold takeWedge joinQueue dropWedge
  simp only
  split
  · split <;> simp
  · simp

theorem takeReadback_turns (bits : List Bool) (c : Ctx) (ht : c.core.Tidy m) :
    Turns m c.core (takeReadback bits c).core := by
  unfold takeReadback
  split
  · have hblock : Turns m c.core (takeBlock c bits).core := (takeBlock_counted c bits).turns
    refine hblock.trans ?_
    unfold endIfComplete
    split
    · rename_i cap w _ hw
      split
      · rename_i k hp
        split
        · exact readEnds_turns k ⟨hw, Turns.tidy hblock ht⟩ ⟨rfl, rfl⟩ (by rw [hp]; rfl)
        · exact .refl
      · exact .refl
    · exact .refl
  · exact .refl

theorem takeWriteDone_turns (c : Ctx) : Turns m c.core (takeWriteDone c).core := by
  unfold takeWriteDone passEnds
  split
  · split
    · rename_i w hw
      split
      · rename_i hp
        exact plainPhase_turns (k := c.core) (w := w) (w' := { w with phase := .move 0 }) hw ⟨rfl, rfl⟩
          (by rw [hp]; rfl) rfl
      · exact .refl
    · exact .refl
  · exact .refl

theorem takeRecord_turns (r : InRecord) (c : Ctx) (ht : c.core.Tidy m) :
    Turns m c.core (takeRecord r c).core := by
  cases r with
  | wedge w => exact .of_eq (takeWedge_core w c)
  | readback bits => exact takeReadback_turns bits c ht
  | temp v => exact takeTemp_turns v c ht
  | fault a => exact takeFault_turns a c ht
  | writeDone => exact takeWriteDone_turns c

/-! ### Requests -/

theorem restOutput_bound (p : Profile) (v : Int) : (restOutput p v).natAbs ≤ p.currentLimit := by
  unfold restOutput
  split
  · exact clampSym_bound _ _
  · exact Nat.zero_le _
  · exact parkOutput_bound p

/-- A bay without a sweep is put where no sweep is, with a command that may stand there. -/
theorem places_turns {k k' : Core} {st : BayState} {i : Intent} {v : Int} {l s : Nat}
    (e : k' = { k with state := st, intent := i, command := v, loopHead := l, selHead := s })
    (hk : ¬ k.sweeping ∨ k.active = false)
    (hn : st = .offline ∨ st = .idle ∨ st = .follow ∨ (st = .acquire ∧ i = .follow)) (hv : k.Sends m st v)
    (hh : (l = k.loopHead ∧ s = k.selHead) ∨ l = s) : Turns m k k' := by
  refine e ▸ (Turn.places st i v l s hk ?_ hv hh).turns
  rcases hn with rfl | rfl | rfl | ⟨rfl, rfl⟩ <;> simp [Core.sweeping]

theorem powerBlocks_core (on : Bool) (c : Ctx) :
    (powerBlocks on c).core = { c.core with intent := .follow } := rfl

theorem powerOnBay_turns (c : Ctx) (hs : c.bay.ctrl.state = .offline) :
    Turns m c.core (powerOnBay c).core := by
  refine places_turns (k := c.core) (st := .idle) (i := .follow) (v := restOutput c.core.profile 0)
    (l := c.core.loopHead) (s := c.core.selHead) ?_ (.inl (by simp [Core.sweeping, hs])) (.inr (.inl rfl))
    ⟨.inl (restOutput_bound _ _), nofun, nofun, nofun⟩ (.inl ⟨rfl, rfl⟩)
  rw [powerOnBay, setCommand_core, setCtrl_core, powerBlocks_core]
  rfl

theorem powerOffBay_turns (c : Ctx) (hm : m ≠ .bare) : Turns m c.core (powerOffBay c).core := by
  unfold powerOffBay
  simp only [setCtrl_core, powerBlocks_core]
  cases ha : c.bay.sweep.active
  · refine places_turns (k := c.core) (st := .offline) (i := .follow) (v := 0) (l := c.core.loopHead)
      (s := c.core.loopHead) ?_ (.inr ha) (.inl rfl) ⟨.inl (Nat.zero_le _), fun _ => rfl, nofun, fun h => absurd h hm⟩ (.inr rfl)
    simp [Ctx.sweep, ha, Ctrl.reset, setCommand_ctrl]
  · have hp : (endCore .poweredOff c).bay.profile = c.bay.profile :=
      congrArg Kept.profile (endCore_kept c _)
    have hturn := (Turn.ends (m := m) (k := c.core) (endMap .poweredOff c.core.map) .offline .follow 0
      (endMap_cases nofun) (by simp [Core.sweeping, Core.ended])
      ⟨.inl (Nat.zero_le _), fun _ => rfl, nofun, fun h => absurd h hm⟩).turns
    refine Turns.to hturn ?_
    simp [Ctx.sweep, ha, Ctrl.reset, setCommand_ctrl, quietRestore, hp, Core.ended]

theorem bayPower_turns (o : Nat) (c : Ctx) (hm : m ≠ .bare) : Turns m c.core (bayPower o c).1.core := by
  unfold bayPower bayPowerOff bayPowerOn
  split
  · simp only
    split
    · exact .refl
    · exact powerOffBay_turns c hm
  · split
    · simp only
      split
      · exact powerOnBay_turns c ‹_›
      · exact .refl
    · exact .refl

theorem moveBay_turns (h t : Nat) (o : Int) (c : Ctx) : Turns m c.core (moveBay h t o c).1.core := by
  have sends (st : BayState) (h1 : st ≠ .offline) (h2 : st ≠ .fault) : c.core.Sends m st c.core.command :=
    ⟨.inr rfl, fun e => absurd e h1, fun e => absurd e h2, fun _ e => absurd e h1⟩
  unfold moveBay
  simp only
  split
  · split
    · rename_i hs
      refine places_turns (k := c.core) (st := .acquire) (i := .follow) (v := c.core.command) (l := h) (s := h)
        ?_ (.inl (by simp [Core.sweeping, show c.bay.ctrl.state = _ from hs]))
        (.inr (.inr (.inr ⟨rfl, rfl⟩))) (sends _ nofun nofun) (.inr rfl)
      simp [moveIdle]
    · rename_i hs hi
      have hs : c.bay.ctrl.state = .acquire := hs
      have hk : ¬ c.core.sweeping := by simp [Core.sweeping, hs, hi]
      unfold moveAcquire
      simp only
      split
      · exact .refl
      · refine places_turns (k := c.core) (st := .acquire) (i := .follow) (v := c.core.command) (l := h)
          (s := h) ?_ (.inl hk) (.inr (.inr (.inr ⟨rfl, rfl⟩))) (sends _ nofun nofun) (.inr rfl)
        rw [setLoopHead_core, ← hs, ← hi]
        rfl
    · rename_i hs
      have hs : c.bay.ctrl.state = .follow := hs
      refine places_turns (k := c.core) (st := .follow) (i := c.core.intent) (v := c.core.command) (l := h)
        (s := h) ?_ (.inl (by simp [Core.sweeping, hs])) (.inr (.inr (.inl rfl))) (sends _ nofun nofun)
        (.inr rfl)
      rw [moveFollow, setLoopHead_core, ← hs]
      rfl
    · exact .refl
  · exact .refl

theorem enterIdle_core (c : Ctx) : (enterIdle c).core =
    { c.core with state := .idle, command := restOutput c.core.profile c.core.command } := by
  rw [enterIdle, setCommand_core]
  rfl

theorem enterIdle_turns (c : Ctx) (hk : ¬ c.core.sweeping) : Turns m c.core (enterIdle c).core :=
  places_turns (enterIdle_core c) (.inl hk) (.inr (.inl rfl)) ⟨.inl (restOutput_bound _ _), nofun, nofun, nofun⟩
    (.inl ⟨rfl, rfl⟩)

theorem stopBay_turns (c : Ctx) : Turns m c.core (stopBay c).1.core := by
  unfold stopBay
  simp only
  split
  · rename_i hs hi
    exact enterIdle_turns c (by simp [Core.sweeping, show c.bay.ctrl.state = _ from hs, hi])
  · rename_i hs
    exact enterIdle_turns c (by simp [Core.sweeping, show c.bay.ctrl.state = _ from hs])
  · exact .refl
  · exact .refl

theorem clearBay_turns (c : Ctx) : Turns m c.core (clearBay c).1.core := by
  unfold clearBay
  split
  · rename_i hs
    split
    · exact .refl
    · exact enterIdle_turns c (by simp [Core.sweeping, show c.bay.ctrl.state = _ from hs])
  · exact .refl

theorem startEngine_core (c : Ctx) : (startEngine c).core = { c.core with
    active := true, seqNext := 0, plan := some (.base 0), stack := [], probe := none, work := none
    log := [] } := rfl

theorem sweepStart_turns (c : Ctx) : Turns m c.core (sweepStart c).1.core := by
  unfold sweepStart
  simp only
  split
  · rename_i hs
    have hs : c.bay.ctrl.state = .idle := hs
    split
    · have hturn := (Turn.starts (m := m) (k := c.core) .acquire .sweep (by simp [Core.sweeping, hs])
        (by simp [hs]) (.inr ⟨rfl, rfl⟩)).turns
      refine Turns.to hturn ?_
      show (startIdle (startEngine c)).core = _
      rw [startIdle, enterAcquire_core, setCtrl_core, Ctx.ctrl_eq, setLoopHead_ctrl, setLoopHead_core,
        startEngine_core]
      rfl
    · exact .refl
  · rename_i hs
    have hs : c.bay.ctrl.state = .follow := hs
    split
    · let c1 := setLoopHead (startEngine c).profile.refHead (startEngine c)
      let d := c1.setCtrl { c1.ctrl with state := .sweep }
      have e : d.core = { c.core with
          active := true, seqNext := 0, plan := some (.base 0), stack := [], probe := none, work := none
          log := [], state := .sweep, loopHead := c.core.profile.refHead
          selHead := c.core.profile.refHead } := by
        simp only [d, c1, setCtrl_core, Ctx.ctrl_eq, setLoopHead_ctrl, setLoopHead_core, startEngine_core]
        rfl
      have hturn : Turns m c.core d.core := e ▸ (Turn.starts .sweep c.core.intent
        (by simp [Core.sweeping, hs]) (by simp [hs]) (.inl rfl)).turns
      refine hturn.trans (boundary_turns d ?_)
      rw [e]
      exact ⟨fun _ => rfl, fun _ => rfl, nofun⟩
    · exact .refl
  · exact .refl

theorem sweepHold_core (c : Ctx) : (sweepHold c).1.core = c.core := by
  unfold sweepHold
  split <;> simp

theorem sweepResume_turns (c : Ctx) (ht : c.core.Tidy m) : Turns m c.core (sweepResume c).1.core := by
  unfold sweepResume
  split
  · refine .at ?_ (resumeIfFree_turns _ ?_)
    · rfl
    · exact ht
  · exact .refl

theorem sweepAbort_turns (c : Ctx) : Turns m c.core (sweepAbort c).1.core := by
  unfold sweepAbort
  split
  · exact endSweep_turns _ c nofun nofun
  · exact .refl

end Sys2Proof.Machine

namespace Sys2Proof.Machine

/-! SUPPORT. The acts that a command is made of: what a powered bay may be put to work on, what a request may
ask of a bay, what a taken request may do, and the acts of the part. A law of the part is proved once against
each act. -/

/-! ### The acts -/

/-- What the part puts a bay to work on, beside requests (R8, R21, R153). -/
inductive Works (c : Ctx) : Ctx → Prop
  | ticks (k : TimerKind) : Works c (tickTimer k c)
  | records (r : InRecord) (hr : r.wellFormed = true) (hs : c.bay.ctrl.state ≠ .offline) :
      Works c (takeRecord r c)
  | completes (w : Wedge) (hs : c.bay.ctrl.state ≠ .offline) : Works c (completeWedge w c)

/-- What a request asks of the bay that it names; `clears` when it may be MAP_CLEAR. -/
inductive Asked (clears : Bool) : (Ctx → Ctx × Reply) → Prop
  | profile (p) : Asked clears (bayProfile p)
  | power (o) : Asked clears (bayPower o)
  | move (h t o) : Asked clears (moveBay h t o)
  | stop : Asked clears stopBay
  | clear : Asked clears clearBay
  | mapRead (h a b) : Asked clears (mapRead h a b)
  | mapAccept (r) : Asked clears (mapAccept r)
  | mapClear (r o) (h : clears = true) : Asked clears (mapClear r o)
  | refLog : Asked clears refLog
  | countersRead : Asked clears countersRead
  | selfCheck : Asked clears selfCheck
  | zone (z o) : Asked clears (zoneSet z o)
  | load (o r) : Asked clears (planLoad o r)
  | probe (i r) : Asked clears (probeBay i r)
  | sweepStart : Asked clears sweepStart
  | sweepHold : Asked clears sweepHold
  | sweepResume : Asked clears sweepResume
  | sweepAbort : Asked clears sweepAbort
  | route (p) : Asked clears (eventRoute p)

/-- What a taken request does to the part, with its reply (R177). -/
inductive Effect (clears : Bool) : (State → State × Reply) → Prop
  | replies (r : Reply) : Effect clears fun s => (s, r)
  | resets : Effect clears fun s => (resetPends s, .ok, [])
  | asks (b : BayIx) (f : Ctx → Ctx × Reply) (hf : Asked clears f) : Effect clears (onBayReply b f)
  | snapshot : Effect clears countersSnapshot
  | zeroesAll : Effect clears fun s => ({ s with bays := s.bays.map Bay.resetCounters }, .ok, [])
  | zeroesOne (b : BayIx) : Effect clears fun s =>
      ({ s with bays := s.bays.set b (s.bays.get b).resetCounters }, .ok, [])
  | status (b : BayIx) (mask : Nat) : Effect clears (statusOf b mask)

/-- Whether a command is a row of MAP_CLEAR. -/
def clearsMap : Instr → Bool
  | .mapClearFull _ _ => true
  | .mapClearMarksOnly _ _ => true
  | _ => false

/-- One act of the part under command `i`. -/
inductive Act (i : Instr) (s : State) : State → Prop
  | powers (high : Bool) (hi : i = .powerOn high) : Act i s (poweredOn high s)
  | works (b : BayIx) (f : Ctx → Ctx) (hf : Works (s.ctx b) (f (s.ctx b))) : Act i s (onBay b f s)
  | serves (b : BayIx) (w : Wedge) : Act i s (takeFrom b w s)
  | frees : Act i s s.freeDemod
  | hears (b : Byte) : Act i s (receiveByte s b)
  | hunts : Act i s (s.setReceiver .hunting)
  | offered (f : Frame) (hc : s.link.closed = false) : Act i s (offerFrame s f)
  | answers (f : Frame) (eff : State → State × Reply) (he : Effect (clearsMap i) eff)
      (hr : s.link.ready = true) : Act i s (takeRequest f eff s)
  | ends (hi : i = .frameSent ∨ i = .partResetEffect) : Act i s s.endFrame

/-- Acts one after another. -/
abbrev Acts (i : Instr) : State → State → Prop := Relation.ReflTransGen (Act i)

/-- A property that each act keeps is kept by acts one after another. -/
theorem Acts.keeps {i : Instr} {P : State → Prop} (hP : ∀ s t, Act i s t → P s → P t) {s t : State}
    (h : Acts i s t) (hs : P s) : P t := by
  induction h with
  | refl => exact hs
  | tail _ hlast ih => exact hP _ _ hlast ih

/-! ### Every request is made of them -/

section
variable {clears : Bool}

theorem withBay_effect (b : Byte) {f : Ctx → Ctx × Reply} (hf : Asked clears f) :
    Effect clears (withBay b f) := by
  unfold withBay
  cases bayOfByte b with
  | none => exact .replies _
  | some i => exact .asks i f hf

theorem withFields_effect {α : Type} (r : Option α) {f : α → State → State × Reply}
    (hf : ∀ x, Effect clears (f x)) : Effect clears (withFields r f) := by
  unfold withFields
  cases r with
  | none => exact .replies _
  | some x => exact hf x

theorem fieldsBay_effect {α : Type} (r : Option α) (b : α → Byte) {f : α → Ctx → Ctx × Reply}
    (hf : ∀ x, Asked clears (f x)) : Effect clears (withFields r fun x => withBay (b x) (f x)) :=
  withFields_effect r fun x => withBay_effect (b x) (hf x)

theorem countersEffect_effect (body : List Byte) : Effect clears (countersEffect body) := by
  refine withFields_effect _ fun x => ?_
  by_cases hx : x.1 = 0xFF
  · simp only [if_pos hx]
    unfold countersAll
    by_cases h0 : x.2 = 0
    · simpa only [if_pos h0] using .snapshot
    · by_cases h2 : x.2 = 2
      · simpa only [if_neg h0, if_pos h2] using .zeroesAll
      · simpa only [if_neg h0, if_neg h2] using .replies _
  · simp only [if_neg hx]
    cases bayOfByte x.1 with
    | none => exact .replies _
    | some b =>
      unfold countersOne
      by_cases h0 : x.2 = 0
      · simpa only [if_pos h0] using .snapshot
      · by_cases h1 : x.2 = 1
        · simpa only [if_neg h0, if_pos h1] using .asks b _ .countersRead
        · by_cases h2 : x.2 = 2
          · simpa only [if_neg h0, if_neg h1, if_pos h2] using .zeroesOne b
          · simpa only [if_neg h0, if_neg h1, if_neg h2] using .replies _

theorem statusEffect_effect (body : List Byte) : Effect clears (statusEffect body) := by
  refine withFields_effect _ fun x => ?_
  cases bayOfByte x.1 with
  | none => exact .replies _
  | some b => exact .status b x.2

end

/-- Every request row takes its frame with an effect of the list. -/
theorem exec_request {i : Instr} {f : Frame} {own : Bool} (h : requestOf i = some (f, own)) :
    ∃ eff, Effect (clearsMap i) eff ∧ ∀ s, exec i s = .next (request f.kind f.tag f.body own eff s) := by
  cases i <;> simp only [requestOf, Option.some.injEq, Prod.mk.injEq, reduceCtorEq] at h <;>
    obtain ⟨rfl, rfl⟩ := h
  case unknownKind => exact ⟨_, .replies _, fun _ => rfl⟩
  case ident => exact ⟨_, withFields_effect _ fun _ => .replies _, fun _ => rfl⟩
  case partReset => exact ⟨_, withFields_effect _ fun _ => .resets, fun _ => rfl⟩
  case bayProfile => exact ⟨_, fieldsBay_effect _ _ fun _ => .profile _, fun _ => rfl⟩
  case bayPowerOn => exact ⟨_, fieldsBay_effect _ _ fun _ => .power _, fun _ => rfl⟩
  case bayPowerOff => exact ⟨_, fieldsBay_effect _ _ fun _ => .power _, fun _ => rfl⟩
  case move => exact ⟨_, fieldsBay_effect _ _ fun _ => .move _ _ _, fun _ => rfl⟩
  case stop => exact ⟨_, fieldsBay_effect _ _ fun _ => .stop, fun _ => rfl⟩
  case clear => exact ⟨_, fieldsBay_effect _ _ fun _ => .clear, fun _ => rfl⟩
  case mapRead => exact ⟨_, fieldsBay_effect _ _ fun _ => .mapRead _ _ _, fun _ => rfl⟩
  case mapAccept => exact ⟨_, fieldsBay_effect _ _ fun _ => .mapAccept _, fun _ => rfl⟩
  case mapClearFull => exact ⟨_, fieldsBay_effect _ _ fun _ => .mapClear _ _ rfl, fun _ => rfl⟩
  case mapClearMarksOnly => exact ⟨_, fieldsBay_effect _ _ fun _ => .mapClear _ _ rfl, fun _ => rfl⟩
  case refLog => exact ⟨_, fieldsBay_effect _ _ fun _ => .refLog, fun _ => rfl⟩
  case countersSnapshot => exact ⟨_, countersEffect_effect _, fun _ => rfl⟩
  case countersRead => exact ⟨_, countersEffect_effect _, fun _ => rfl⟩
  case countersReset => exact ⟨_, countersEffect_effect _, fun _ => rfl⟩
  case selfCheck => exact ⟨_, fieldsBay_effect _ _ fun _ => .selfCheck, fun _ => rfl⟩
  case zoneSetDefine => exact ⟨_, fieldsBay_effect _ _ fun _ => .zone _ _, fun _ => rfl⟩
  case zoneSetUndefine => exact ⟨_, fieldsBay_effect _ _ fun _ => .zone _ _, fun _ => rfl⟩
  case planLoadReplace => exact ⟨_, fieldsBay_effect _ _ fun _ => .load _ _, fun _ => rfl⟩
  case planLoadAppend => exact ⟨_, fieldsBay_effect _ _ fun _ => .load _ _, fun _ => rfl⟩
  case probe => exact ⟨_, fieldsBay_effect _ _ fun _ => .probe _ _, fun _ => rfl⟩
  case sweepStart => exact ⟨_, fieldsBay_effect _ _ fun _ => .sweepStart, fun _ => rfl⟩
  case sweepHold => exact ⟨_, fieldsBay_effect _ _ fun _ => .sweepHold, fun _ => rfl⟩
  case sweepResume => exact ⟨_, fieldsBay_effect _ _ fun _ => .sweepResume, fun _ => rfl⟩
  case sweepAbort => exact ⟨_, fieldsBay_effect _ _ fun _ => .sweepAbort, fun _ => rfl⟩
  case status => exact ⟨_, statusEffect_effect _, fun _ => rfl⟩
  case eventRoute => exact ⟨_, fieldsBay_effect _ _ fun _ => .route _, fun _ => rfl⟩

/-! ### Every command is made of them -/

section
variable (i : Instr) (s : State)

theorem receiveBytes_acts (l : List Byte) : Acts i s (receiveBytes l s) := by
  unfold receiveBytes
  induction l generalizing s with
  | nil => exact .refl
  | cons b l ih => exact .head (.hears b) (ih _)

theorem arrive_acts (f : Frame) : Acts i s (arrive f s) := by
  unfold arrive
  split
  · exact .refl
  · split
    · exact .single (.offered f (by tauto))
    · exact receiveBytes_acts i s _

theorem request_acts (kind tag : Byte) (body : List Byte) (own : Bool) {eff : State → State × Reply}
    (he : Effect (clearsMap i) eff) : Acts i s (request kind tag body own eff s) := by
  unfold request
  simp only
  split
  · rename_i h
    exact (arrive_acts i s _).tail (.answers _ eff he h.2.1)
  · exact arrive_acts i s _

theorem tick_acts (l : List TimerId) : Acts i s (l.foldl tickOne s) := by
  induction l generalizing s with
  | nil => exact .refl
  | cons t l ih => exact .head (.works t.bay _ (.ticks t.kind)) (ih _)

theorem record_acts (b : BayIx) (r : InRecord) :
    Acts i s (if reaches b r s then onBay b (takeRecord r) s else s) := by
  split
  · rename_i h
    simp only [reaches, State.offline, Bool.and_eq_true, Bool.not_eq_true'] at h
    exact .single (.works b _ (.records r h.2 (by simpa using h.1)))
  · exact .refl

theorem demodTake_acts : Acts i s (demodTake s) := by
  unfold demodTake
  split
  · split
    · exact .single (.serves _ _)
    · exact .refl
  · exact .refl

theorem demodComplete_acts : Acts i s (demodComplete s) := by
  unfold demodComplete
  split
  · exact .refl
  · rename_i b w _
    split
    · exact .single .frees
    · rename_i ho
      refine .head .frees (.single (.works b _ (.completes w ?_)))
      simpa [State.offline, State.freeDemod] using ho

theorem completeFor_acts (n : Note) (b : BayIx) : Acts i s (completeFor n b s) := by
  unfold completeFor
  split
  · exact demodComplete_acts i s
  · exact .refl

end

/-- Every command answers what its acts leave. -/
theorem exec_acts (i : Instr) (s : State) : ∃ t, exec i s = .next t ∧ Acts i s t := by
  cases hr : requestOf i with
  | some fo =>
    obtain ⟨eff, he, h⟩ := exec_request (f := fo.1) (own := fo.2) hr
    exact ⟨_, h s, request_acts i s _ _ _ _ he⟩
  | none =>
    cases i <;> simp only [requestOf, reduceCtorEq] at hr
    case powerOn high => exact ⟨_, rfl, .single (.powers high rfl)⟩
    case timeBaseTick o => exact ⟨_, rfl, tick_acts _ s _⟩
    case acquireTimeout b =>
      refine ⟨_, rfl, ?_⟩
      split
      · exact .single (.works b _ (.ticks .acquisition))
      · exact .refl
    case sensorStale b =>
      refine ⟨_, rfl, ?_⟩
      split
      · exact .single (.works b _ (.ticks .staleness))
      · exact .refl
    case wedge b w => exact ⟨_, rfl, record_acts _ s b (.wedge w)⟩
    case readback b bits => exact ⟨_, rfl, record_acts _ s b (.readback bits)⟩
    case writeDone b => exact ⟨_, rfl, record_acts _ s b .writeDone⟩
    case temp b v => exact ⟨_, rfl, record_acts _ s b (.temp v)⟩
    case fault b a => exact ⟨_, rfl, record_acts _ s b (.fault a)⟩
    case malformedRecord b bytes =>
      refine ⟨_, rfl, ?_⟩
      unfold recordArrives
      split
      · exact record_acts _ s b _
      · exact .refl
    case demodTake => exact ⟨_, rfl, demodTake_acts _ s⟩
    case demodComplete => exact ⟨_, rfl, demodComplete_acts _ s⟩
    case receiveFrame bytes => exact ⟨_, rfl, receiveBytes_acts _ s bytes⟩
    case frameSent => exact ⟨_, rfl, .single (.ends (.inl rfl))⟩
    case partResetEffect =>
      refine ⟨_, rfl, ?_⟩
      split
      · exact .single (.ends (.inr rfl))
      · exact .refl
    case impossibleLength lo hi => exact ⟨_, rfl, receiveBytes_acts _ s _⟩
    case byteFramingError => exact ⟨_, rfl, .single .hunts⟩
    all_goals exact ⟨_, rfl, completeFor_acts _ s _ _⟩

/-- A step is the idling of an empty queue, or the acts of the command that left it. -/
theorem step_acts {s t : State} (h : step s = .next t) :
    (s.pending = [] ∧ t = s) ∨ ∃ c rest, s.pending = c :: rest ∧ Acts c { s with pending := rest } t := by
  unfold step at h
  split at h
  · injection h with h
    exact .inl ⟨‹_›, h.symm⟩
  · rename_i c rest hp
    obtain ⟨u, hu, ha⟩ := exec_acts c { s with pending := rest }
    rw [hu] at h
    injection h with h
    exact .inr ⟨c, rest, hp, h ▸ ha⟩

end Sys2Proof.Machine

namespace Sys2Proof.Machine

/-! SUPPORT. From a law of the core that every change keeps to a law of a bay that every command and every
step keep. -/

variable {m : Mode} {Q : Core → Prop}

/-! ### The profile and the requests that are no changes of `Turn` -/

theorem reevaluateOutput_turns (c : Ctx) : Turns m c.core (reevaluateOutput c).core := by
  have sets (v : Int) (hk : ¬ c.core.sweeping) (hv : c.core.Sends m c.core.state v) :
      Turns m c.core (setCommand v c).core := by
    rw [setCommand_core]
    exact (Turn.places (k := c.core) c.core.state c.core.intent v c.core.loopHead c.core.selHead (.inl hk) hk hv
      (.inl ⟨rfl, rfl⟩)).turns
  unfold reevaluateOutput
  split
  · rename_i hs
    have hs : c.bay.ctrl.state = .offline := hs
    exact sets 0 (by simp [Core.sweeping, hs]) ⟨.inl (Nat.zero_le _), fun _ => rfl, by simp [hs], fun _ => id⟩
  · rename_i hs
    have hs : c.bay.ctrl.state = .idle := hs
    exact sets _ (by simp [Core.sweeping, hs]) ⟨.inl (restOutput_bound _ _), by simp [hs], by simp [hs], fun _ => id⟩
  · rename_i hs
    have hs : c.bay.ctrl.state = .fault := hs
    exact sets _ (by simp [Core.sweeping, hs]) ⟨.inl (parkOutput_bound _), by simp [hs], fun _ => rfl, fun _ => id⟩
  all_goals exact .refl

theorem setProfile_turns (p : Profile) (c : Ctx) (ht : { c.core with profile := p }.Tidy m) :
    Turns m { c.core with profile := p } (setProfile p c).core := by
  have hthermal := reevaluateThermal_turns (cutoffPresent c.profile c.thermal) (c.setProfile p) ht
  exact hthermal.trans (reevaluateOutput_turns _)

theorem store_queueDepth (p : Profile) {id : Nat} (v : Int) (h : id ≠ 4) :
    (p.store id v).queueDepth = p.queueDepth := by
  unfold Profile.store
  simp only
  split
  case h_5 => exact absurd rfl h
  all_goals rfl

theorem put_queueDepth (a : Applied) {id : Nat} (lo hi v : Int) (h : id ≠ 4) :
    (a.put id lo hi v).profile.queueDepth = a.profile.queueDepth := by
  unfold Applied.put Applied.list
  simp only
  repeat' split
  all_goals exact store_queueDepth _ _ h

theorem pair_queueDepth (a : Applied) {q : Nat × Int} (h : q.1 ≠ 4) :
    (a.pair q).profile.queueDepth = a.profile.queueDepth := by
  unfold Applied.pair
  split
  · exact put_queueDepth _ _ _ _ h
  · exact store_queueDepth _ _ h

theorem applyPairs_queueDepth (p : Profile) {pairs : List (Nat × Int)} (h : ∀ q ∈ pairs, q.1 ≠ 4) :
    (applyPairs p pairs).profile.queueDepth = p.queueDepth := by
  have folds (l : List (Nat × Int)) (a : Applied) (hl : ∀ q ∈ l, q.1 ≠ 4) :
      (l.foldl Applied.pair a).profile.queueDepth = a.profile.queueDepth := by
    induction l generalizing a with
    | nil => rfl
    | cons q l ih =>
      rw [List.foldl_cons, ih _ fun x hx => hl x (List.mem_cons_of_mem _ hx)]
      exact pair_queueDepth a (hl q List.mem_cons_self)
  exact (put_queueDepth _ _ _ _ (by decide)).trans (folds pairs ⟨p, []⟩ h)

/-- A BAY_PROFILE changes nothing, or sets a profile in OFFLINE, IDLE or FAULT, the queue's depth in OFFLINE
alone (R182). -/
theorem bayProfile_cases (pairs : List (Nat × Int)) (c : Ctx) : (bayProfile pairs c).1 = c ∨
    ∃ p, c.bay.ctrl.state.takesProfile = true ∧ (bayProfile pairs c).1 = setProfile p c ∧
      (p.queueDepth = c.bay.profile.queueDepth ∨ c.bay.ctrl.state = .offline) := by
  unfold bayProfile
  split
  · exact .inl rfl
  · split
    · exact .inl rfl
    · split
      · exact .inl rfl
      · rename_i hs
        split
        · exact .inl rfl
        · rename_i hd
          refine .inr ⟨_, by simpa using hs, rfl, ?_⟩
          by_cases ho : c.bay.ctrl.state = .offline
          · exact .inr ho
          · refine .inl (applyPairs_queueDepth _ fun q hq h4 => hd ⟨?_, ho⟩)
            exact List.any_eq_true.2 ⟨q, hq, by simp [h4]⟩

/-- A law that stands when the profile of a bay in OFFLINE, IDLE or FAULT changes is kept by BAY_PROFILE. -/
theorem bayProfile_keeps (tidy : ∀ k, Q k → k.Tidy m) (turn : ∀ k k', Turn m k k' → Q k → Q k')
    (hp : ∀ p k, k.state.takesProfile = true → Q k → Q { k with profile := p }) (pairs : List (Nat × Int))
    (c : Ctx) (h : Q c.core) : Q (bayProfile pairs c).1.core := by
  rcases bayProfile_cases pairs c with e | ⟨p, hs, e, _⟩ <;> rw [e]
  · exact h
  · have hq := hp p c.core hs h
    exact Turns.keeps turn (setProfile_turns p c (tidy _ hq)) hq

theorem zoneSet_core (z : Nat) (o : ZoneOption) (c : Ctx) : (zoneSet z o c).1.core = c.core := by
  unfold zoneSet zoneDefine zoneUndefine
  repeat' split
  all_goals rfl

theorem planLoad_core (o : Nat) (r : List RawStep) (c : Ctx) : (planLoad o r c).1.core = c.core := by
  unfold planLoad
  simp only
  repeat' split
  all_goals rfl

theorem eventRoute_core (p : List (Nat × Nat)) (c : Ctx) : (eventRoute p c).1.core = c.core := by
  unfold eventRoute
  split <;> rfl

theorem probeBay_turns (id : Nat) (raw : List RawStep) (c : Ctx) : Turns m c.core (probeBay id raw c).1.core := by
  unfold probeBay
  split
  · exact .refl
  · rename_i steps _
    split
    · exact .refl
    · rename_i hlen
      split
      · refine (Turn.plans (k := c.core) c.core.stack c.core.plan (some (id, steps)) ?_).turns
        rintro ⟨h1, h2, h3, _⟩
        refine ⟨h1, h2, h3, ?_⟩
        rintro q ⟨⟩
        cases steps with
        | nil => simp at hlen
        | cons x xs => exact ⟨by simp, by simpa using hlen⟩
      · exact .refl

theorem mapAccept_cases (r : MapRange) (c : Ctx) : (mapAccept r c).1.core = c.core ∨
    (mapAccept r c).1.core = { c.core with map := mapNamed Entry.accept (rangeNamed r) c.core.map } := by
  unfold mapAccept
  split
  · exact .inr rfl
  · exact .inl rfl

theorem mapClear_cases (r : MapRange) (o : Nat) (c : Ctx) : (mapClear r o c).1.core = c.core ∨
    (c.core.active = false ∧
      (mapClear r o c).1.core = { c.core with map := mapNamed (Entry.clear o) (rangeNamed r) c.core.map }) := by
  unfold mapClear
  split
  · split
    · exact .inl rfl
    · rename_i ha
      exact .inr ⟨by simpa using ha, rfl⟩
  · exact .inl rfl

/-- A law that every change keeps is kept by BAY_POWER. -/
theorem bayPower_keeps (turn : ∀ {m} k k', Turn m k k' → Q k → Q k') (o : Nat) (c : Ctx) (h : Q c.core) :
    Q (bayPower o c).1.core :=
  Turns.keeps turn (bayPower_turns (m := .parts) o c nofun) h

/-! ### Laws of the core -/

/-- A law of the core that every command keeps. -/
structure CoreLaw (m : Mode) (Q : Core → Prop) : Prop where
  reset : Q Bay.reset.core
  tidy : ∀ k, Q k → k.Tidy m
  turn : ∀ k k', Turn m k k' → Q k → Q k'
  profile : ∀ pairs c, Q c.core → Q (bayProfile pairs c).1.core
  power : ∀ o c, Q c.core → Q (bayPower o c).1.core
  accept : ∀ k named, Q k → Q { k with map := mapNamed Entry.accept named k.map }
  clear : ∀ k o named, k.active = false → Q k → Q { k with map := mapNamed (Entry.clear o) named k.map }

theorem CoreLaw.turns (h : CoreLaw m Q) {k k' : Core} (ht : Turns m k k') (hk : Q k) : Q k' := ht.keeps h.turn hk

/-- The law is one of the bay whose core is the one it holds of. -/
theorem Ctx.law_of_core {c : Ctx} {k : Core} (e : c.core = k) (h : Q k) : Q c.bay.core :=
  show Q c.core from e ▸ h

/-- It is a property of a bay that every function a command applies to a bay keeps. -/
theorem CoreLaw.invariant (h : CoreLaw m Q) : BayInvariant fun x => Q x.core where
  reset := h.reset
  tick k c := h.turns (tickTimer_turns k c)
  record r c _ _ hq := h.turns (takeRecord_turns r c (h.tidy _ hq)) hq
  take _ := id
  sample w c _ hq := h.turns (completeWedge_turns w c (h.tidy _ hq)) hq
  profile := h.profile
  power := h.power
  move a t o c := h.turns (moveBay_turns a t o c)
  stop c := h.turns (stopBay_turns c)
  clear c := h.turns (clearBay_turns c)
  accept r c hq := by
    rcases mapAccept_cases r c with e | e
    · exact Ctx.law_of_core e hq
    · exact Ctx.law_of_core e (h.accept _ _ hq)
  mapClear r o c hq := by
    rcases mapClear_cases r o c with e | ⟨ha, e⟩
    · exact Ctx.law_of_core e hq
    · exact Ctx.law_of_core e (h.clear _ _ _ ha hq)
  snapshot _ := id
  resetCounters x := h.turns (Turn.counts (k := x.core) Counters.zero fun _ => ⟨Nat.zero_le _, Nat.le_refl _⟩).turns
  selfCheck _ := id
  zone z o c hq := Ctx.law_of_core (zoneSet_core z o c) hq
  load o r c hq := Ctx.law_of_core (planLoad_core o r c) hq
  probe i r c := h.turns (probeBay_turns i r c)
  start c := h.turns (sweepStart_turns c)
  hold c hq := Ctx.law_of_core (sweepHold_core c) hq
  resume c hq := h.turns (sweepResume_turns c (h.tidy _ hq)) hq
  abort c := h.turns (sweepAbort_turns c)
  status _ _ _ := id
  route p c hq := Ctx.law_of_core (eventRoute_core p c) hq

/-- A property of every bay that every command keeps is kept by a step. -/
theorem step_keeps {P : Bay → Prop} (hP : BayInvariant P) {s t : State} (h : step s = .next t)
    (hs : ∀ b, P (s.bays.get b)) : ∀ b, P (t.bays.get b) := by
  unfold step at h
  split at h
  · injection h with h
    exact h ▸ hs
  · rename_i c rest _
    exact exec_keeps hP c (s := { s with pending := rest }) hs h

/-! ### The laws of single fields -/

theorem tidy_bare (k : Core) : k.Tidy .bare := ⟨nofun, nofun, nofun, nofun⟩

/-- A law that says nothing of the profile and the map. -/
theorem CoreLaw.of_turn (hr : Q Bay.reset.core) (ht : ∀ {m} k k', Turn m k k' → Q k → Q k')
    (hm : ∀ k p t, Q k → Q { k with profile := p, map := t }) : CoreLaw .bare Q where
  reset := hr
  tidy k _ := tidy_bare k
  turn := ht
  power := bayPower_keeps ht
  profile := bayProfile_keeps (fun k _ => tidy_bare k) (ht (m := .bare)) fun p k _ => hm k p k.map
  accept k _ := hm k k.profile _
  clear k _ _ _ := hm k k.profile _

theorem counterLaw_kept : CoreLaw .bare fun k => k.running.lawful :=
  .of_turn ⟨Nat.zero_le _, Nat.le_refl _⟩ (fun _ _ => Turn.keeps_counterLaw) fun _ _ _ => id

theorem stackLaw_kept : CoreLaw .bare Core.stackLaw :=
  .of_turn ⟨by decide, by decide, by decide, by decide⟩ (fun _ _ => Turn.keeps_stackLaw) fun _ _ _ => id

theorem logLaw_reset : Bay.reset.core.logLaw := by
  refine ⟨Nat.zero_le _, .nil, ?_, ?_⟩
  · intro r hr
    cases hr
  · intro w hw
    cases hw

theorem logLaw_kept : CoreLaw .bare Core.logLaw :=
  .of_turn logLaw_reset (fun _ _ => Turn.keeps_logLaw) fun _ _ _ h => h

theorem mapWf_kept : CoreLaw .bare fun k => Table.wf Entry.empty k.map = true where
  reset := rfl
  tidy k _ := tidy_bare k
  turn _ _ := Turn.keeps_mapWf
  power := bayPower_keeps fun _ _ => Turn.keeps_mapWf
  profile := bayProfile_keeps (fun k _ => tidy_bare k) (fun _ _ => Turn.keeps_mapWf) fun _ _ _ => id
  accept _ _ := mapNamed_wf _ _
  clear _ _ _ _ := mapNamed_wf _ _

end Sys2Proof.Machine

namespace Sys2Proof.Machine

/-! SUPPORT. The laws of the command, of provisional parts and of the two heads are kept by every command. -/

/-! ### The command (R64, R65) -/

theorem enterFault_state (o : SweepOutcome) (c : Ctx) : (enterFault o c).bay.ctrl.state = .fault := by
  unfold enterFault
  exact congrArg Core.state (setCommand_core _ _)

theorem evalHold_core_of_not_held (c : Ctx) (hs : c.bay.ctrl.state ≠ .held) : (evalHold c).core = c.core := by
  have stays (d : Ctx) (e : d.core = c.core) : (removeCause .thermal d).core = c.core := by
    have hd : d.bay.ctrl.state ≠ .held := by
      rw [show d.bay.ctrl.state = c.bay.ctrl.state from congrArg Core.state e]
      exact hs
    unfold removeCause resumeIfFree
    split
    · rw [if_neg (fun h => hd h.2)]
      exact e
    · exact e
  unfold evalHold
  simp only
  split
  · rfl
  · split
    · split
      · exact stays _ (by simp)
      · rfl
    · split
      · simp
      · rfl

/-- A profile is set in OFFLINE, IDLE or FAULT, and leaves the bay in one of them. -/
theorem reevaluateThermal_state (b : Bool) (c : Ctx) (hs : c.bay.ctrl.state.takesProfile = true) :
    (reevaluateThermal b c).bay.ctrl.state.takesProfile = true := by
  have hh : c.bay.ctrl.state ≠ .held := by
    rintro h
    simp [h, BayState.takesProfile] at hs
  have e : (evalCutoff (evalHold c)).bay.ctrl.state = c.bay.ctrl.state :=
    congrArg Core.state ((evalCutoff_core _).trans (evalHold_core_of_not_held c hh))
  unfold reevaluateThermal afterCutoff cutoffRises
  split
  · split
    · exact e ▸ hs
    · exact e ▸ hs
    · rw [enterFault_state]
      rfl
  · exact e ▸ hs

/-- In OFFLINE, IDLE and FAULT the output of the state is a lawful one. -/
theorem reevaluateOutput_lawful (c : Ctx) (hs : c.bay.ctrl.state.takesProfile = true) :
    (reevaluateOutput c).core.commandLaw := by
  have sets (v : Int) (h : v.natAbs ≤ c.bay.profile.currentLimit ∧ (c.bay.ctrl.state = .offline → v = 0) ∧
      (c.bay.ctrl.state = .fault → v = parkOutput c.bay.profile)) : (setCommand v c).core.commandLaw := by
    rw [setCommand_core]
    exact h
  unfold reevaluateOutput
  cases h : c.bay.ctrl.state <;> simp only [h, BayState.takesProfile, Bool.false_eq_true] at hs <;>
    simp only [Ctx.ctrl, h]
  case offline => exact sets 0 ⟨Nat.zero_le _, fun _ => rfl, by simp [h]⟩
  case idle => exact sets _ ⟨restOutput_bound _ _, by simp [h], by simp [h]⟩
  case fault => exact sets _ ⟨parkOutput_bound _, by simp [h], fun _ => rfl⟩

theorem commandLaw_kept : CoreLaw .bare Core.commandLaw where
  reset := ⟨by decide, fun _ => rfl, nofun⟩
  tidy k _ := tidy_bare k
  turn _ _ := Turn.keeps_commandLaw
  power := bayPower_keeps fun _ _ => Turn.keeps_commandLaw
  profile pairs c h := by
    rcases bayProfile_cases pairs c with e | ⟨p, hs, e, _⟩ <;> rw [e]
    · exact h
    · exact reevaluateOutput_lawful _ (reevaluateThermal_state _ (c.setProfile p) hs)
  accept _ _ h := h
  clear _ _ _ _ h := h

/-! ### Provisional parts (R72) -/

/-- A part of the map after named entries changed, when the change leaves each entry its part or none, is a
part of the map before. -/
theorem part_of_mapNamed {f : Entry → Entry} (hf : ∀ e, (f e).offset = e.offset ∨ (f e).offset = none)
    (named : List (Nat × Nat)) {t : Table Entry} {kv : Nat × Entry} (hkv : kv ∈ mapNamed f named t)
    {x : OffsetPart} (hx : x ∈ kv.2.offset) : ∃ kv0 ∈ t, x ∈ kv0.2.offset := by
  induction named generalizing t with
  | nil => exact ⟨kv, hkv, hx⟩
  | cons hz rest ih =>
    obtain ⟨kv1, h1, hx1⟩ := ih hkv
    rcases Table.mem_put h1 with hmem | rfl
    · exact ⟨kv1, hmem, hx1⟩
    · rcases hf (mapGet t hz.1 hz.2) with e | e <;> simp only [e] at hx1
      · rcases mapGet_mem_or t hz.1 hz.2 with h0 | ⟨key, h0⟩
        · simp [h0, Entry.empty] at hx1
        · exact ⟨_, h0, hx1⟩
      · cases hx1

theorem accept_offset (e : Entry) : e.accept.offset = e.offset := by
  unfold Entry.accept
  split <;> rfl

theorem clear_offset (o : Nat) (e : Entry) : (e.clear o).offset = e.offset ∨ (e.clear o).offset = none := by
  unfold Entry.clear
  split
  · exact .inr rfl
  · exact .inl rfl

theorem Core.PartsLaw.named {k : Core} (hk : k.PartsLaw) {f : Entry → Entry}
    (hf : ∀ e, (f e).offset = e.offset ∨ (f e).offset = none) (named : List (Nat × Nat)) :
    { k with map := mapNamed f named k.map }.PartsLaw := by
  refine ⟨hk.active, hk.log, hk.work, fun kv hkv x hx => ?_⟩
  obtain ⟨kv0, h0, hx0⟩ := part_of_mapNamed hf named hkv hx
  exact hk.parts kv0 h0 x hx0

theorem partsLaw_reset : Bay.reset.core.PartsLaw := by
  refine ⟨by simp [Bay.core, Bay.reset, Core.sweeping, Sweep.reset, Ctrl.reset], logLaw_reset, ?_, ?_⟩
  · intro w hw
    cases hw
  · intro kv hkv
    cases hkv

theorem partsLaw_kept : CoreLaw .parts Core.PartsLaw where
  reset := partsLaw_reset
  tidy _ h := h.tidy
  turn _ _ := Turn.keeps_partsLaw
  power o c := Turns.keeps (fun _ _ => Turn.keeps_partsLaw) (bayPower_turns o c nofun)
  profile := bayProfile_keeps (fun _ h => h.tidy) (fun _ _ => Turn.keeps_partsLaw) fun _ _ _ h =>
    ⟨h.active, h.log, h.work, h.parts⟩
  accept _ named h := h.named (fun e => .inl (accept_offset e)) named
  clear _ o named _ h := h.named (clear_offset o) named

/-! ### The two heads (R57) -/

/-- In OFFLINE, IDLE and FAULT no sweep is active, so the profile may change. -/
theorem Core.HeadsLaw.withProfile {k : Core} (hk : k.HeadsLaw) (hs : k.state.takesProfile = true) (p : Profile) :
    { k with profile := p }.HeadsLaw := by
  have ha : k.active = false := by
    rw [← Bool.not_eq_true]
    intro ha
    rcases hk.active.1 ha with e | e | ⟨e, _⟩ <;> simp [e, BayState.takesProfile] at hs
  have hw : k.work = none := by
    by_contra hw
    simpa [ha] using (hk.work hw).1
  refine .of_idle hk.active hw (fun h => ?_) (hk.agree ?_)
  · simp [ha] at h
  · simp [hw]

theorem headsLaw_kept : CoreLaw .heads Core.HeadsLaw where
  reset := .of_idle (by simp [Bay.core, Bay.reset, Core.sweeping, Sweep.reset, Ctrl.reset]) rfl nofun rfl
  tidy _ h := h.tidy
  turn _ _ := Turn.keeps_headsLaw
  power o c := Turns.keeps (fun _ _ => Turn.keeps_headsLaw) (bayPower_turns o c nofun)
  profile := bayProfile_keeps (fun _ h => h.tidy) (fun _ _ => Turn.keeps_headsLaw) fun p _ hs h =>
    h.withProfile hs p
  accept _ _ h := ⟨h.active, h.work, h.loop, h.phases, h.heads⟩
  clear _ _ _ _ h := ⟨h.active, h.work, h.loop, h.phases, h.heads⟩

end Sys2Proof.Machine

namespace Sys2Proof.Machine

/-! SUPPORT. What the requests to a bay leave of its wedge queue, plan store and zone table, that BAY_POWER alone
enters OFFLINE, and the statements O5, O6, O7 and O9 to O12 on the laws that every step keeps. -/

/-! ### What requests leave alone -/

section
variable (c : Ctx)
theorem moveBay_kept (h t o) : (moveBay h t o c).1.kept = c.kept := by
  unfold moveBay moveIdle moveAcquire moveFollow
  simp only
  repeat' split
  all_goals simp
theorem stopBay_kept : (stopBay c).1.kept = c.kept := by
  unfold stopBay
  simp only
  repeat' split
  all_goals simp
theorem clearBay_kept : (clearBay c).1.kept = c.kept := by
  unfold clearBay
  simp only
  repeat' split
  all_goals simp
theorem mapAccept_kept (r) : (mapAccept r c).1.kept = c.kept := by
  unfold mapAccept
  split <;> rfl
theorem mapClear_kept (r o) : (mapClear r o c).1.kept = c.kept := by
  unfold mapClear
  repeat' split
  all_goals rfl
theorem probeBay_kept (i r) : (probeBay i r c).1.kept = c.kept := by
  unfold probeBay
  repeat' split
  all_goals rfl
theorem sweepStart_kept : (sweepStart c).1.kept = c.kept := by
  unfold sweepStart startIdle startFollow
  simp only
  repeat' split
  all_goals simp
theorem sweepHold_kept : (sweepHold c).1.kept = c.kept := by
  unfold sweepHold
  split <;> simp
theorem sweepResume_kept : (sweepResume c).1.kept = c.kept := by
  unfold sweepResume
  split <;> simp
theorem sweepAbort_kept : (sweepAbort c).1.kept = c.kept := by
  unfold sweepAbort
  split <;> simp

theorem setProfile_kept (p) : (setProfile p c).kept = { c.kept with profile := p } := by
  unfold setProfile
  rw [reevaluateOutput_kept, reevaluateThermal_kept]
  rfl

theorem joinQueue_bay (w) : (joinQueue w c).bay.zones = c.bay.zones ∧ (joinQueue w c).bay.store = c.bay.store ∧
    (joinQueue w c).bay.profile = c.bay.profile ∧
    (joinQueue w c).bay.intake.queue = c.bay.intake.queue ++ [w] := by
  unfold joinQueue
  simp only
  split
  · have h := raise_kept (c.setIntake ⟨c.bay.intake.queue ++ [w], true⟩)
      (.queueWarn (c.bay.intake.queue ++ [w]).length c.profile.queueDepth)
    exact ⟨congrArg Kept.zones h, congrArg Kept.store h, congrArg Kept.profile h,
      congrArg (fun k => k.intake.queue) h⟩
  · exact ⟨rfl, rfl, rfl, rfl⟩

theorem takeWedge_zones (w) : (takeWedge w c).bay.zones = c.bay.zones ∧ (takeWedge w c).bay.store = c.bay.store := by
  unfold takeWedge
  split
  · exact ⟨(joinQueue_bay c w).1, (joinQueue_bay c w).2.1⟩
  · have h := raise_kept c (.queueOverrun c.bay.intake.queue.length w.head (w.sync.map fun y => y.index))
    exact ⟨congrArg Kept.zones h, congrArg Kept.store h⟩

theorem bayPower_zones (o) : (bayPower o c).1.bay.zones = c.bay.zones ∧ (bayPower o c).1.bay.store = c.bay.store := by
  have on : (powerOnBay c).kept.zones = c.kept.zones ∧ (powerOnBay c).kept.store = c.kept.store := by
    unfold powerOnBay
    rw [setCommand_kept]
    exact ⟨rfl, rfl⟩
  have off : (powerOffBay c).kept.zones = c.kept.zones ∧ (powerOffBay c).kept.store = c.kept.store := by
    have blocks (d : Ctx) (h : d.kept = c.kept) (k : Ctrl) :
        ((powerBlocks false (d.send (.power false))).setCtrl k).kept.zones = c.kept.zones ∧
          ((powerBlocks false (d.send (.power false))).setCtrl k).kept.store = c.kept.store :=
      ⟨(congrArg Kept.zones h :), (congrArg Kept.store h :)⟩
    refine blocks _ ?_ _
    rw [setCommand_kept]
    split
    · exact endCore_kept c _
    · rfl
  unfold bayPower bayPowerOn bayPowerOff
  split
  · simp only
    split
    · exact ⟨rfl, rfl⟩
    · exact off
  · split
    · simp only
      split
      · exact on
      · exact ⟨rfl, rfl⟩
    · exact ⟨rfl, rfl⟩

end

/-! ### The plan store, the zone table (R132, R130) -/

/-- A property of the plan store and the zone table that PLAN_LOAD and ZONE_SET keep. -/
theorem storeZones_invariant {S : List StepRec → Prop} {Z : Table (Option Zone) → Prop} (hs : S []) (hz : Z [])
    (hload : ∀ o r c, S c.bay.store → S (planLoad o r c).1.bay.store)
    (hzone : ∀ z o c, Z c.bay.zones → Z (zoneSet z o c).1.bay.zones) :
    BayInvariant fun x => S x.store ∧ Z x.zones := by
  have kept {c d : Ctx} (h : d.kept = c.kept) (hc : S c.bay.store ∧ Z c.bay.zones) :
      S d.bay.store ∧ Z d.bay.zones := by
    have h1 : d.bay.store = c.bay.store := congrArg Kept.store h
    have h2 : d.bay.zones = c.bay.zones := congrArg Kept.zones h
    rw [h1, h2]
    exact hc
  have same {c d : Ctx} (h : d.bay.zones = c.bay.zones ∧ d.bay.store = c.bay.store)
      (hc : S c.bay.store ∧ Z c.bay.zones) : S d.bay.store ∧ Z d.bay.zones := by
    rw [h.1, h.2]
    exact hc
  refine
    { reset := ⟨hs, hz⟩, tick := fun k c => kept (tickTimer_kept c k), record := fun r c _ _ => ?_
      take := fun _ => id, sample := fun w c _ => kept (completeWedge_kept c w), profile := fun p c => ?_
      power := fun o c => same (bayPower_zones c o), move := fun h t o c => kept (moveBay_kept c h t o)
      stop := fun c => kept (stopBay_kept c), clear := fun c => kept (clearBay_kept c)
      accept := fun r c => kept (mapAccept_kept c r), mapClear := fun r o c => kept (mapClear_kept c r o)
      snapshot := fun _ => id, resetCounters := fun _ => id, selfCheck := fun _ => id
      zone := fun z o c hc => ⟨?_, hzone z o c hc.2⟩, load := fun o r c hc => ⟨hload o r c hc.1, ?_⟩
      probe := fun i r c => kept (probeBay_kept c i r), start := fun c => kept (sweepStart_kept c)
      hold := fun c => kept (sweepHold_kept c), resume := fun c => kept (sweepResume_kept c)
      abort := fun c => kept (sweepAbort_kept c), status := fun _ _ _ => id, route := fun p c => ?_ }
  · cases r with
    | wedge w => exact same (takeWedge_zones c w)
    | readback b => exact kept (takeReadback_kept b c)
    | temp v => exact kept (takeTemp_kept c v)
    | fault a => exact kept (takeFault_kept c a)
    | writeDone => exact kept (takeWriteDone_kept c)
  · rcases bayProfile_cases p c with e | ⟨q, _, e, _⟩ <;> rw [e]
    · exact id
    · have h := setProfile_kept c q
      exact same ⟨congrArg Kept.zones h, congrArg Kept.store h⟩
  · have h : (zoneSet z o c).1.bay.store = c.bay.store := by
      unfold zoneSet zoneDefine zoneUndefine
      repeat' split
      all_goals rfl
    exact h ▸ hc.1
  · have h : (planLoad o r c).1.bay.zones = c.bay.zones := by
      unfold planLoad
      simp only
      repeat' split
      all_goals rfl
    exact h ▸ hc.2
  · unfold eventRoute
    split <;> exact id

theorem planLoad_store (o : Nat) (r : List RawStep) (c : Ctx) (h : c.bay.store.length ≤ Config.planSteps) :
    (planLoad o r c).1.bay.store.length ≤ Config.planSteps := by
  unfold planLoad
  simp only
  split
  · exact h
  · split
    · exact h
    · split
      · exact h
      · generalize (if o = 0 then _ else _ : List StepRec) = store
        split
        · exact h
        · rename_i hfits
          exact Nat.le_of_not_lt hfits

theorem zoneSet_wf (z : Nat) (o : ZoneOption) (c : Ctx) (h : Table.wf none c.bay.zones = true) :
    Table.wf none (zoneSet z o c).1.bay.zones = true := by
  unfold zoneSet zoneDefine zoneUndefine
  repeat' split
  all_goals first
    | exact h
    | exact zonePut_wf _ _ h

/-- Settles O6: the plan store and the zone table change at PLAN_LOAD and ZONE_SET alone, and the counters and
the Head Map by the changes of `Turn`. -/
theorem stepKeepsStoreCountersTables : Obligations.StepKeepsStoreCountersTables := by
  intro s t h
  refine ⟨fun hs b => ?_, step_keeps counterLaw_kept.invariant h, fun hs b => ⟨?_, ?_⟩⟩
  · exact (step_keeps (storeZones_invariant (S := fun l => l.length ≤ Config.planSteps) (Z := fun _ => True) (Nat.zero_le _) trivial planLoad_store
      fun _ _ _ => id) h (fun b => ⟨hs b, trivial⟩) b).1
  · exact step_keeps mapWf_kept.invariant h (fun b => (hs b).1) b
  · exact (step_keeps (storeZones_invariant (S := fun _ => True) (Z := fun z => Table.wf none z = true) trivial rfl (fun _ _ _ => id) zoneSet_wf) h
      (fun b => ⟨trivial, (hs b).2⟩) b).2

/-! ### OFFLINE and the wedge queue (R23, R26, R30) -/

/-- Only a BAY_POWER takes a bay to OFFLINE. -/
theorem Turn.awake {k k' : Core} (h : Turn .bare k k') (hk : k'.state = .offline) : k.state = .offline := by
  cases h with
  | closes w r st i v _ _ _ _ _ hd => exact hd.powered rfl hk
  | ends mp st i v _ _ hv => exact hv.powered rfl hk
  | places st i v l s _ _ hv => exact hv.powered rfl hk
  | restarts | acquires | holds | frees | loses => cases hk
  | starts st i _ _ hn =>
    have hk : st = .offline := hk
    subst hk
    simp at hn
  | _ => exact hk

theorem Turns.awake {k k' : Core} (h : Turns .bare k k') (hk : k'.state = .offline) : k.state = .offline := by
  induction h with
  | refl => exact hk
  | tail _ hlast ih => exact ih (hlast.awake hk)

/-- The law of the wedge queue with the emptiness of an OFFLINE bay's queue. -/
def Bay.intakeLaw (x : Bay) : Prop := x.queueLaw ∧ x.offlineEmpty

/-- A bay whose queue has not grown keeps its law, unless it has become OFFLINE or its depth has changed. -/
theorem Bay.intakeLaw.mono {x y : Bay} (h : x.intakeLaw) (hq : y.intake.queue.length ≤ x.intake.queue.length)
    (hd : y.profile.queueDepth = x.profile.queueDepth) (ho : y.ctrl.state = .offline → x.ctrl.state = .offline) :
    y.intakeLaw := by
  refine ⟨?_, fun hy => ?_⟩
  · show _ ≤ _
    rw [hd]
    exact hq.trans h.1
  · have := h.2 (ho hy)
    simpa [this] using hq

theorem bayPower_intakeLaw (o : Nat) (c : Ctx) (h : c.bay.intakeLaw) : (bayPower o c).1.bay.intakeLaw := by
  have emptied {x : Bay} (h : x.intake.queue = []) : x.intakeLaw := ⟨by simp [h], fun _ => h⟩
  unfold bayPower bayPowerOn bayPowerOff
  split
  · simp only
    split
    · exact h
    · exact emptied rfl
  · split
    · simp only
      split
      · refine emptied ?_
        have hk : (powerOnBay c).kept.intake.queue = [] := by
          unfold powerOnBay
          rw [setCommand_kept]
          rfl
        exact hk
      · exact h
    · exact h

theorem takeWedge_intakeLaw (w : Wedge) (c : Ctx) (hs : c.bay.ctrl.state ≠ .offline) (h : c.bay.intakeLaw) :
    (takeWedge w c).bay.intakeLaw := by
  have ho : (takeWedge w c).bay.ctrl.state ≠ .offline := by
    rw [show (takeWedge w c).bay.ctrl.state = c.bay.ctrl.state from congrArg Core.state (takeWedge_core w c)]
    exact hs
  refine ⟨?_, fun h => absurd h ho⟩
  unfold takeWedge
  split
  · rename_i hroom
    obtain ⟨_, _, hp, hq⟩ := joinQueue_bay c w
    show _ ≤ _
    rw [hp, hq, List.length_append]
    exact hroom
  · have hk := raise_kept c (.queueOverrun c.bay.intake.queue.length w.head (w.sync.map fun y => y.index))
    have h1 := congrArg Kept.intake hk
    have h2 := congrArg Kept.profile hk
    simp only [Ctx.kept] at h1 h2
    show List.length (Bay.intake _).queue ≤ _
    rw [dropWedge, h1, h2]
    exact h.1

theorem intakeLaw_kept : BayInvariant Bay.intakeLaw := by
  have quiet {c d : Ctx} (hk : d.kept = c.kept) (ht : Turns .bare c.core d.core) (h : c.bay.intakeLaw) :
      d.bay.intakeLaw := by
    have h1 : d.bay.intake = c.bay.intake := congrArg Kept.intake hk
    have h2 : d.bay.profile = c.bay.profile := congrArg Kept.profile hk
    exact h.mono (by rw [h1]) (by rw [h2]) ht.awake
  refine
    { reset := ⟨by decide, fun _ => rfl⟩, tick := fun k c => quiet (tickTimer_kept c k) (tickTimer_turns k c)
      record := fun r c _ hs h => ?_, take := fun x h => h.mono (by simp [Bay.takeOldest]) rfl id
      sample := fun w c _ => quiet (completeWedge_kept c w) (completeWedge_turns w c (tidy_bare _))
      profile := fun p c h => ?_, power := bayPower_intakeLaw
      move := fun h t o c => quiet (moveBay_kept c h t o) (moveBay_turns h t o c)
      stop := fun c => quiet (stopBay_kept c) (stopBay_turns c)
      clear := fun c => quiet (clearBay_kept c) (clearBay_turns c), accept := fun r c h => ?_
      mapClear := fun r o c h => ?_, snapshot := fun _ => id, resetCounters := fun _ => id
      selfCheck := fun _ => id, zone := fun z o c h => ?_, load := fun o r c h => ?_
      probe := fun i r c => quiet (probeBay_kept c i r) (probeBay_turns i r c)
      start := fun c => quiet (sweepStart_kept c) (sweepStart_turns c)
      hold := fun c => quiet (sweepHold_kept c) (.of_eq (sweepHold_core c))
      resume := fun c => quiet (sweepResume_kept c) (sweepResume_turns c (tidy_bare _))
      abort := fun c => quiet (sweepAbort_kept c) (sweepAbort_turns c), status := fun _ _ _ => id
      route := fun p c h => ?_ }
  · have turns := takeRecord_turns r c (tidy_bare _)
    cases r with
    | wedge w => exact takeWedge_intakeLaw w c hs h
    | readback b => exact quiet (takeReadback_kept b c) turns h
    | temp v => exact quiet (takeTemp_kept c v) turns h
    | fault a => exact quiet (takeFault_kept c a) turns h
    | writeDone => exact quiet (takeWriteDone_kept c) turns h
  · rcases bayProfile_cases p c with e | ⟨q, _, e, hd⟩ <;> rw [e]
    · exact h
    · have hk := setProfile_kept c q
      have h1 : (setProfile q c).bay.intake = c.bay.intake := congrArg Kept.intake hk
      have h2 : (setProfile q c).bay.profile = q := congrArg Kept.profile hk
      have hs := (setProfile_turns (m := .bare) q c (tidy_bare _)).awake
      rcases hd with hd | hd
      · exact h.mono (by rw [h1]) (by rw [h2, hd]) hs
      · have hempty : (setProfile q c).bay.intake.queue = [] := by
          rw [h1]
          exact h.2 hd
        exact ⟨by simp [hempty], fun _ => hempty⟩
  · have hk := mapAccept_kept c r
    have hq : (mapAccept r c).1.bay.intake = c.bay.intake := congrArg Kept.intake hk
    have hp : (mapAccept r c).1.bay.profile = c.bay.profile := congrArg Kept.profile hk
    refine h.mono (by rw [hq]) (by rw [hp]) fun ho => ?_
    rcases mapAccept_cases r c with e | e
    · exact (congrArg Core.state e).symm.trans ho
    · exact (congrArg Core.state e).symm.trans ho
  · have hk := mapClear_kept c r o
    have hq : (mapClear r o c).1.bay.intake = c.bay.intake := congrArg Kept.intake hk
    have hp : (mapClear r o c).1.bay.profile = c.bay.profile := congrArg Kept.profile hk
    refine h.mono (by rw [hq]) (by rw [hp]) fun ho => ?_
    rcases mapClear_cases r o c with e | ⟨_, e⟩
    · exact (congrArg Core.state e).symm.trans ho
    · exact (congrArg Core.state e).symm.trans ho
  · unfold zoneSet zoneDefine zoneUndefine
    repeat' split
    all_goals exact h
  · unfold planLoad
    simp only
    repeat' split
    all_goals exact h
  · unfold eventRoute
    split <;> exact h

/-- Settles O5: no record joins a full queue, a BAY_POWER empties the queue, and the depth changes in OFFLINE
alone. -/
theorem stepKeepsQueueLaw : Obligations.StepKeepsQueueLaw :=
  fun _ _ hs h => step_keeps intakeLaw_kept h hs

/-- Settles O7: each change of state or command that `Turn` lists leaves a command that may stand there. -/
theorem stepKeepsCommandLaw : Obligations.StepKeepsCommandLaw :=
  fun _ _ hs h => step_keeps commandLaw_kept.invariant h hs

/-- Settles O9: the law of the stack, the plan and the pending probe is kept by each change of `Turn`. -/
theorem stepKeepsStackLaw : Obligations.StepKeepsStackLaw :=
  fun _ _ hs h => step_keeps stackLaw_kept.invariant h hs

/-- Settles O10: the law of the log with its sequence numbers is kept by each change of `Turn`. -/
theorem stepKeepsLogLaw : Obligations.StepKeepsLogLaw :=
  fun _ _ hs h => step_keeps logLaw_kept.invariant h hs

/-- Settles O11: `Core.PartsLaw` gathers the laws of a bay that the statement names. -/
theorem stepKeepsProvisionalLaw : Obligations.StepKeepsProvisionalLaw := by
  intro s t hs h b
  obtain ⟨hactive, hlog, hwork, hparts⟩ := step_keeps partsLaw_kept.invariant h
    (fun b => let ⟨h1, h2, h3, h4⟩ := hs b; ⟨h1, h2, h3, h4⟩) b
  exact ⟨hactive, hlog, hwork, hparts⟩

/-- Settles O12: `Core.HeadsLaw` gathers the laws of a bay that the statement names. -/
theorem stepKeepsHeadsLaw : Obligations.StepKeepsHeadsLaw := by
  intro s t hs h b
  obtain ⟨hactive, hwork, hloop, hphases, hheads⟩ := step_keeps headsLaw_kept.invariant h
    (fun b => let ⟨h1, ⟨h2, h3, h4⟩, h5⟩ := hs b; ⟨h1, h2, h3, h4, h5⟩) b
  exact ⟨hactive, ⟨hwork, hloop, hphases⟩, hheads⟩

end Sys2Proof.Machine

namespace Sys2Proof.Machine

/-! SUPPORT. What the acts of the part do to the accepted marks, to the link and to the waiting commands, and the
statements O1 to O4 and O8. -/

/-! ### The bays of an act -/

theorem Works.id {c d : Ctx} (h : Works c d) : d.id = c.id := by
  cases h with
  | ticks k => exact id_of_kept (tickTimer_kept c k)
  | records r => exact takeRecord_id r c
  | completes w => exact id_of_kept (completeWedge_kept c w)

theorem Works.turns {c d : Ctx} (h : Works c d) : Turns .bare c.core d.core := by
  cases h with
  | ticks k => exact tickTimer_turns k c
  | records r => exact takeRecord_turns r c (tidy_bare _)
  | completes w => exact completeWedge_turns w c (tidy_bare _)

theorem Asked.id {b : Bool} {f : Ctx → Ctx × Reply} (h : Asked b f) (c : Ctx) : (f c).1.id = c.id := by
  cases h with
  | profile p => exact bayProfile_id p c
  | power o => exact bayPower_id o c
  | move h t o => exact moveBay_id h t o c
  | stop => exact stopBay_id c
  | clear => exact clearBay_id c
  | mapRead h a b => exact mapRead_id h a b c
  | mapAccept r => exact mapAccept_id r c
  | mapClear r o => exact mapClear_id r o c
  | refLog | countersRead | selfCheck => rfl
  | zone z o => exact zoneSet_id z o c
  | load o r => exact planLoad_id o r c
  | probe i r => exact probeBay_id i r c
  | sweepStart => exact sweepStart_id c
  | sweepHold => exact sweepHold_id c
  | sweepResume => exact sweepResume_id c
  | sweepAbort => exact sweepAbort_id c
  | route p => exact eventRoute_id p c

theorem onBay_bays_of_works {s : State} {b : BayIx} {f : Ctx → Ctx} (h : Works (s.ctx b) (f (s.ctx b))) :
    (onBay b f s).bays = s.bays.set b (f (s.ctx b)).bay := onBay_bays b f s h.id

theorem onBayReply_bays {clears : Bool} {f : Ctx → Ctx × Reply} (h : Asked clears f) (b : BayIx) (s : State) :
    (onBayReply b f s).1.bays = s.bays.set b (f (s.ctx b)).1.bay := by
  simp [onBayReply, h.id]

/-! ### The accepted mark (R78) -/

/-- A request other than MAP_CLEAR leaves the marked entries of its bay as they are. -/
theorem Asked.marks {f : Ctx → Ctx × Reply} (h : Asked false f) (c : Ctx) :
    MarkKept c.bay.map (f c).1.bay.map := by
  have same {d : Ctx} (e : d.core = c.core) : MarkKept c.bay.map d.bay.map := by
    rw [show d.bay.map = c.bay.map from congrArg Core.map e]
    exact .refl _
  have turns {d : Ctx} (ht : Turns .bare c.core d.core) : MarkKept c.bay.map d.bay.map := ht.marks
  cases h with
  | profile p =>
    rcases bayProfile_cases p c with e | ⟨q, _, e, _⟩ <;> rw [e]
    · exact .refl _
    · exact (setProfile_turns (m := .bare) q c (tidy_bare _)).marks
  | power o => exact (bayPower_turns (m := .parts) o c nofun).marks
  | move h t o => exact turns (moveBay_turns h t o c)
  | stop => exact turns (stopBay_turns c)
  | clear => exact turns (clearBay_turns c)
  | mapRead h a b =>
    unfold Machine.mapRead
    split <;> exact .refl _
  | mapAccept r =>
    unfold Machine.mapAccept
    split
    · exact markKept_accept _ _
    · exact .refl _
  | mapClear r o h => cases h
  | refLog | countersRead | selfCheck => exact .refl _
  | zone z o => exact same (zoneSet_core z o c)
  | load o r => exact same (planLoad_core o r c)
  | probe i r => exact turns (probeBay_turns i r c)
  | sweepStart => exact turns (sweepStart_turns c)
  | sweepHold => exact same (sweepHold_core c)
  | sweepResume => exact turns (sweepResume_turns c (tidy_bare _))
  | sweepAbort => exact turns (sweepAbort_turns c)
  | route p => exact same (eventRoute_core p c)

/-- What becomes of the marked entries of every bay. -/
def State.MarksKept (s t : State) : Prop := ∀ b, MarkKept (s.bays.get b).map (t.bays.get b).map

theorem marksKept_of_bays {s t : State} (h : t.bays = s.bays) : s.MarksKept t := fun b => by
  rw [h]
  exact .refl _

theorem marksKept_of_set {s t : State} {b : BayIx} {x : Bay} (h : t.bays = s.bays.set b x)
    (hx : MarkKept (s.bays.get b).map x.map) : s.MarksKept t := fun a => by
  rw [h, PerBay.get_set]
  split
  · rename_i e
    exact e ▸ hx
  · exact .refl _

theorem Effect.marks {eff : State → State × Reply} (h : Effect false eff) (s : State) : s.MarksKept (eff s).1 := by
  cases h with
  | replies | resets => exact marksKept_of_bays rfl
  | asks b f hf => exact marksKept_of_set (onBayReply_bays hf b s) (hf.marks (s.ctx b))
  | snapshot | zeroesAll =>
    intro b
    cases b <;> exact .refl _
  | zeroesOne b => exact marksKept_of_set rfl (.refl _)
  | status b mask =>
    unfold statusOf
    split
    · exact marksKept_of_bays rfl
    · refine marksKept_of_set (b := b) (x := (statusOfBay mask s.events (s.ctx b)).1.bay) ?_ (.refl _)
      unfold State.clearOverflow
      split <;> simp [onBayReply, statusOfBay]

/-- Every act but POWER_ON, the end of a frame and MAP_CLEAR leaves the marked entries as they are. -/
theorem Act.marks {i : Instr} {s t : State} (h : Act i s t) (hp : ∀ high, i ≠ .powerOn high)
    (hc : clearsMap i = false) (he : i ≠ .frameSent ∧ i ≠ .partResetEffect) : s.MarksKept t := by
  cases h with
  | powers high hi => exact absurd hi (hp high)
  | works b f hf => exact marksKept_of_set (onBay_bays_of_works hf) hf.turns.marks
  | serves b w => exact marksKept_of_set rfl (.refl _)
  | frees | hunts => exact marksKept_of_bays rfl
  | hears b => exact marksKept_of_bays (receiveByte_bays s b)
  | offered f => exact marksKept_of_bays (offerFrame_bays s f)
  | answers f eff heff =>
    rw [hc] at heff
    have := heff.marks s.takeFrame
    intro b
    simpa [takeRequest] using this b
  | ends hi => exact absurd hi (by simp [he])

theorem Acts.marks {i : Instr} {s t : State} (h : Acts i s t) (hp : ∀ high, i ≠ .powerOn high)
    (hc : clearsMap i = false) (he : i ≠ .frameSent ∧ i ≠ .partResetEffect) : s.MarksKept t := by
  induction h with
  | refl => exact marksKept_of_bays rfl
  | tail _ hlast ih => exact fun b => (ih b).trans (hlast.marks hp hc he b)

/-- The end of a frame that resets nothing leaves the bays alone. -/
theorem endFrame_bays {s : State} (h : s.resetDue = false) : s.endFrame.bays = s.bays := by
  unfold State.endFrame
  split
  · rfl
  · simp [h, State.freeLine]

/-- The half of the law of the accepted mark that is a law of a state. -/
def Core.markLaw (k : Core) : Prop := ∀ kv ∈ k.map, kv.2.accepted = true → kv.2.provisional = false

theorem mapNamed_all {P : Entry → Prop} {f : Entry → Entry} (h0 : P Entry.empty) (hf : ∀ e, P e → P (f e))
    (named : List (Nat × Nat)) {t : Table Entry} (ht : ∀ kv ∈ t, P kv.2) : ∀ kv ∈ mapNamed f named t, P kv.2 := by
  induction named generalizing t with
  | nil => exact ht
  | cons hz rest ih =>
    refine ih fun kv hkv => ?_
    rcases Table.mem_put hkv with h | rfl
    · exact ht kv h
    · refine hf _ ?_
      rcases mapGet_mem_or t hz.1 hz.2 with h | ⟨key, h⟩
      · exact h ▸ h0
      · exact ht _ h

theorem markLaw_kept : CoreLaw .bare Core.markLaw where
  reset kv h := by cases h
  tidy k _ := tidy_bare k
  turn _ _ h hk := (h.marks hk).1
  power := bayPower_keeps fun _ _ h hk => (h.marks hk).1
  profile := bayProfile_keeps (fun k _ => tidy_bare k) (fun _ _ h hk => (h.marks hk).1) fun _ _ _ h => h
  accept k named h := (markKept_accept named k.map h).1
  clear k o named _ h := by
    refine mapNamed_all (P := fun e => e.accepted = true → e.provisional = false) nofun (fun e he => ?_) named h
    unfold Entry.clear
    split
    · nofun
    · nofun

/-- Settles O8: each change of `Turn`, and MAP_ACCEPT, leaves the marked entries as they are, and what else a
command other than MAP_CLEAR, POWER_ON and the end of the PART_RESET reply does has no part in the map. -/
theorem stepKeepsMarkLaw : Obligations.StepKeepsMarkLaw := by
  intro s t hs h
  refine ⟨step_keeps markLaw_kept.invariant h hs, fun c rest hp hpow hclear hreset b hd z => ?_⟩
  rcases step_acts h with ⟨hp', _⟩ | ⟨c', rest', hp', hacts⟩
  · simp [hp'] at hp
  rw [hp', List.cons.injEq] at hp
  obtain ⟨rfl, rfl⟩ := hp
  have hnot : clearsMap c' = false := by
    have h := fun tag body => hclear tag body
    cases c' <;> first | rfl | exact absurd rfl (h _ _).1 | exact absurd rfl (h _ _).2
  have hmarks : s.MarksKept t := by
    by_cases he : c' ≠ .frameSent ∧ c' ≠ .partResetEffect
    · exact fun b => Acts.marks hacts hpow hnot he b
    · have hdue : s.resetDue = false := by
        rw [← Bool.not_eq_true]
        exact fun hd => he (hreset hd)
      have hends := endFrame_bays (s := { s with pending := rest' }) hdue
      simp only [step, hp'] at h
      by_cases h1 : c' = .frameSent
      · subst h1
        injection h with h
        exact marksKept_of_bays (h ▸ hends)
      · have h2 : c' = .partResetEffect := by tauto
        subst h2
        injection h with h
        have hdue' : State.resetDue { s with pending := rest' } = false := hdue
        rw [hdue'] at h
        exact marksKept_of_bays (h ▸ rfl)
  exact (hmarks b (hs b)).2 (mapKey hd z)

/-! ### The link (R170, R176, R178) -/

/-- The lists of the link are within their bounds, with at most `k` answers of taken requests. -/
structure State.Within (s : State) (k : Nat) : Prop where
  events : s.events.frames.length ≤ Config.eventQueueSize
  rxQueue : s.link.rxQueue.length ≤ Config.receiveQueueSize
  full : (s.link.replies.countP fun a => !a.taken) ≤ Config.queueFullAnswers
  taken : (s.link.replies.countP fun a => a.taken) ≤ k

/-- The line is free only when nothing waits to be sent. -/
def State.Busy (s : State) : Prop := s.link.line = none → s.link.replies = [] ∧ s.events.frames = []

theorem linkLaw_iff (s : State) : s.linkLaw ↔ s.Within 1 ∧ s.Busy :=
  ⟨fun ⟨h1, h2, h3, h4, h5⟩ => ⟨⟨h1, h2, h3, h4⟩, h5⟩, fun ⟨⟨h1, h2, h3, h4⟩, h5⟩ => ⟨h1, h2, h3, h4, h5⟩⟩

section
variable {s : State} {k : Nat}

theorem arbiter_within (h : s.Within k) : (arbiter s).Within k ∧ (arbiter s).Busy := by
  obtain ⟨he, hq, hf, ht⟩ := h
  unfold arbiter
  split
  · rename_i hl
    exact ⟨⟨he, hq, hf, ht⟩, fun h => by simp [h] at hl⟩
  · rename_i a rest hr
    rw [hr] at hf ht
    refine ⟨⟨he, hq, ?_, ?_⟩, nofun⟩
    · exact (List.sublist_cons_self _ _).countP_le.trans hf
    · exact (List.sublist_cons_self _ _).countP_le.trans ht
  · rename_i e rest _ hr hev
    rw [hev, List.length_cons] at he
    exact ⟨⟨(Nat.le_succ _).trans he, hq, hf, ht⟩, nofun⟩
  · rename_i hl hr hev
    exact ⟨⟨he, hq, hf, ht⟩, fun _ => ⟨hr, hev⟩⟩

theorem offerEvent_within (e : EventFrame) (h : s.Within k ∧ s.Busy) :
    (offerEvent s e).Within k ∧ (offerEvent s e).Busy := by
  obtain ⟨⟨he, hq, hf, ht⟩, hb⟩ := h
  unfold offerEvent
  split
  · rename_i hroom
    exact arbiter_within ⟨by simpa using hroom, hq, hf, ht⟩
  · exact ⟨⟨he, hq, hf, ht⟩, hb⟩

theorem commit_within (c : Ctx) (h : s.Within k ∧ s.Busy) : (commit c s).Within k ∧ (commit c s).Busy := by
  have folds (l : List EventFrame) (u : State) (hu : u.Within k ∧ u.Busy) :
      (l.foldl offerEvent u).Within k ∧ (l.foldl offerEvent u).Busy := by
    induction l generalizing u with
    | nil => exact hu
    | cons e l ih => exact ih _ (offerEvent_within e hu)
  obtain ⟨⟨he, hq, hf, ht⟩, hb⟩ := h
  exact folds _ (putBay c s) ⟨⟨he, hq, hf, ht⟩, hb⟩

theorem Effect.within {clears : Bool} {eff : State → State × Reply} (he : Effect clears eff)
    (h : s.Within k ∧ s.Busy) : (eff s).1.Within k ∧ (eff s).1.Busy := by
  have h0 := h
  obtain ⟨⟨hev, hq, hf, ht⟩, hb⟩ := h
  cases he with
  | replies | snapshot | zeroesAll | zeroesOne => exact ⟨⟨hev, hq, hf, ht⟩, hb⟩
  | resets => exact ⟨⟨hev, Nat.zero_le _, hf, ht⟩, hb⟩
  | asks b f => exact commit_within _ h0
  | status b mask =>
    unfold statusOf
    split
    · exact h0
    · obtain ⟨⟨hev, hq, hf, ht⟩, hb⟩ := commit_within (statusOfBay mask s.events (s.ctx b)).1 h0
      unfold State.clearOverflow
      split <;> exact ⟨⟨hev, hq, hf, ht⟩, hb⟩

theorem offerFrame_within (f : Frame) (h : s.Within k ∧ s.Busy) (hc : s.link.closed = false) :
    (offerFrame s f).Within k ∧ (offerFrame s f).Busy := by
  obtain ⟨⟨hev, hq, hf, ht⟩, hb⟩ := h
  unfold offerFrame
  split
  · rename_i hr
    have hroom : (s.link.replies.countP fun a => !a.taken) < Config.queueFullAnswers := by
      simpa [Link.closed, hr] using hc
    refine arbiter_within ⟨hev, hq, ?_, ?_⟩
    · simpa using hroom
    · simpa using ht
  · rename_i hr
    simp only [Link.refusing, Bool.or_eq_true, decide_eq_true_eq, not_or, not_le] at hr
    exact ⟨⟨hev, by simpa using hr.2, hf, ht⟩, hb⟩

theorem receiveByte_within (b : Byte) (h : s.Within k ∧ s.Busy) :
    (receiveByte s b).Within k ∧ (receiveByte s b).Busy := by
  have hunts (r : Receiver) : (s.setReceiver r).Within k ∧ (s.setReceiver r).Busy := by
    obtain ⟨⟨hev, hq, hf, ht⟩, hb⟩ := h
    exact ⟨⟨hev, hq, hf, ht⟩, hb⟩
  unfold receiveByte
  simp only
  split
  · exact hunts _
  · rename_i hc
    have hopen : s.link.closed = false := by simpa using hc
    split
    · exact offerFrame_within _ (hunts _) hopen
    · exact hunts _

theorem takeRequest_within (f : Frame) {clears : Bool} {eff : State → State × Reply} (he : Effect clears eff)
    (h : s.Within k ∧ s.Busy) (hr : s.link.ready = true) :
    (takeRequest f eff s).Within 1 ∧ (takeRequest f eff s).Busy := by
  obtain ⟨⟨hev, hq, hf, _⟩, hb⟩ := h
  have hnone : (s.link.replies.countP fun a => a.taken) ≤ 0 := by
    simp only [Link.ready, Bool.and_eq_true, List.all_eq_true] at hr
    rw [Nat.le_zero, List.countP_eq_zero]
    intro a ha
    simpa using hr.2 a ha
  have hq' : s.link.rxQueue.tail.length ≤ Config.receiveQueueSize := by
    rw [List.length_tail]
    omega
  obtain ⟨⟨hev', hq', hf', ht'⟩, _⟩ := he.within (s := s.takeFrame) ⟨⟨hev, hq', hf, hnone⟩, hb⟩
  refine arbiter_within ⟨hev', hq', ?_, ?_⟩
  · simpa using hf'
  · simpa using ht'

theorem onBays_within (f : Ctx → Ctx) (l : List BayIx) (h : s.Within k ∧ s.Busy) :
    (l.foldl (fun s b => onBay b f s) s).Within k := by
  induction l generalizing s with
  | nil => exact h.1
  | cons b l ih => exact ih (commit_within _ h)

theorem resetBlocks_within (h : s.Within k) : (resetBlocks s).Within k where
  events := Nat.zero_le _
  rxQueue := Nat.zero_le _
  full := (List.filter_sublist.countP_le).trans h.full
  taken := (List.filter_sublist.countP_le).trans h.taken

theorem resetEffect_within (h : s.Within k ∧ s.Busy) : (resetEffect s).Within k :=
  resetBlocks_within (onBays_within resetRecords allBays h)

theorem freeLine_within (h : s.Within k) : s.freeLine.Within k ∧ s.freeLine.Busy := by
  obtain ⟨hev, hq, hf, ht⟩ := h
  exact arbiter_within ⟨hev, hq, hf, ht⟩

theorem endFrame_within (h : s.Within k ∧ s.Busy) : s.endFrame.Within k ∧ s.endFrame.Busy := by
  unfold State.endFrame
  split
  · exact h
  · split
    · exact freeLine_within (resetEffect_within h)
    · exact freeLine_within h.1

end

/-- Every act keeps the laws of the link. -/
theorem Act.link {i : Instr} {s t : State} (h : Act i s t) (hs : s.Within 1 ∧ s.Busy) : t.Within 1 ∧ t.Busy := by
  have same {u : State} (e : u.events = s.events ∧ u.link = s.link) : u.Within 1 ∧ u.Busy := by
    obtain ⟨⟨hev, hq, hf, ht⟩, hb⟩ := hs
    obtain ⟨e1, e2⟩ := e
    exact ⟨⟨e1 ▸ hev, e2 ▸ hq, e2 ▸ hf, e2 ▸ ht⟩, by rw [State.Busy, e1, e2]; exact hb⟩
  cases h with
  | powers high => exact ⟨⟨Nat.zero_le _, Nat.zero_le _, Nat.zero_le _, Nat.zero_le _⟩, fun _ => ⟨rfl, rfl⟩⟩
  | works b f hf => exact commit_within _ hs
  | serves b w => exact same ⟨rfl, rfl⟩
  | frees => exact same ⟨rfl, rfl⟩
  | hunts =>
    obtain ⟨⟨hev, hq, hf, ht⟩, hb⟩ := hs
    exact ⟨⟨hev, hq, hf, ht⟩, hb⟩
  | hears b => exact receiveByte_within b hs
  | offered f hc => exact offerFrame_within f hs hc
  | answers f eff heff hr => exact takeRequest_within f heff hs hr
  | ends => exact endFrame_within hs

/-- Settles O4: every act of the part keeps the laws of the link. -/
theorem stepKeepsLinkLaw : Obligations.StepKeepsLinkLaw := by
  intro s t hs h
  rw [linkLaw_iff] at hs ⊢
  rcases step_acts h with ⟨_, rfl⟩ | ⟨c, rest, _, hacts⟩
  · exact hs
  · obtain ⟨⟨hev, hq, hf, ht⟩, hb⟩ := hs
    exact Acts.keeps (P := fun s => s.Within 1 ∧ s.Busy) (fun _ _ => Act.link) hacts ⟨⟨hev, hq, hf, ht⟩, hb⟩

/-! ### The waiting commands, and the state at reset -/

theorem Effect.pending {clears : Bool} {eff : State → State × Reply} (h : Effect clears eff) (s : State) :
    (eff s).1.pending = s.pending := by
  cases h with
  | replies | resets | snapshot | zeroesAll | zeroesOne => rfl
  | asks b f => exact commit_pending _ s
  | status b mask =>
    unfold statusOf
    split
    · rfl
    · unfold State.clearOverflow
      split <;> exact commit_pending _ s

theorem resetEffect_pending (s : State) : (resetEffect s).pending = s.pending := by
  simp [resetEffect, resetBlocks, allBays, onBay]

/-- No act touches the waiting commands. -/
theorem Act.pending {i : Instr} {s t : State} (h : Act i s t) : t.pending = s.pending := by
  cases h with
  | powers | serves | frees | hunts => rfl
  | works b f hf => exact commit_pending _ s
  | hears b => exact receiveByte_pending s b
  | offered f => exact offerFrame_pending s f
  | answers f eff he => exact (addAnswer_pending _ _).trans (he.pending _)
  | ends =>
    unfold State.endFrame
    split
    · rfl
    · split
      · simpa [State.freeLine] using resetEffect_pending s
      · simp [State.freeLine]

/-- Settles O1: the two branches of `step`. -/
theorem stepRunsFrontCommand : Obligations.StepRunsFrontCommand := by
  refine ⟨fun c rest s h => ?_, fun s h => ?_⟩ <;> simp only [step, h]

/-- Settles O2: a command's acts leave the waiting commands alone. -/
theorem commandsCompleteAndKeepQueue : Obligations.CommandsCompleteAndKeepQueue := by
  intro c s
  obtain ⟨t, ht, hacts⟩ := exec_acts c s
  exact ⟨t, ht, Acts.keeps (P := fun u => u.pending = s.pending) (fun _ _ h hp => h.pending.trans hp) hacts rfl⟩

/-- Settles O3: every list of the state at reset is empty, no sweep is active and no work in flight. -/
theorem resetIsLawfulAndPowerOnGivesIt : Obligations.ResetIsLawfulAndPowerOnGivesIt := by
  refine ⟨⟨(linkLaw_iff _).2 ⟨⟨by decide, by decide, by decide, by decide⟩, fun _ => ⟨rfl, rfl⟩⟩, fun b => ?_⟩,
    fun s high => rfl⟩
  have hb : State.reset.bays.get b = Bay.reset := by cases b <;> rfl
  obtain ⟨hactive, hlog, hwork, hparts⟩ := partsLaw_kept.reset
  obtain ⟨_, hwork', hloop, hphases, hheads⟩ := headsLaw_kept.reset
  simp only [hb]
  exact ⟨intakeLaw_kept.reset.1, intakeLaw_kept.reset.2, Nat.zero_le _, counterLaw_kept.reset,
    commandLaw_kept.reset, markLaw_kept.reset, ⟨rfl, rfl⟩, hactive, stackLaw_kept.reset, hlog, hparts, hwork,
    hheads, hwork', hloop, hphases⟩

end Sys2Proof.Machine

namespace Sys2Proof.Machine

/-! SUPPORT. Requests, answers and frames on the link (chapter 10): what an effect does to the answers that wait,
how bytes become frames, and statements O22 to O25. -/

/-! ### A request answered once (R177, R178) -/

/-- A bay's answer to a request is OK or ADJUSTED, or leaves the bay as it is. -/
def Granted (c : Ctx) (r : Ctx × Reply) : Prop := r.2.1 = .ok ∨ r.2.1 = .adjusted ∨ r.1 = c

theorem Asked.granted {clears : Bool} {f : Ctx → Ctx × Reply} (h : Asked clears f) (c : Ctx) : Granted c (f c) := by
  cases h with
  | refLog | countersRead | selfCheck => exact .inl rfl
  | profile p =>
    unfold bayProfile
    dsimp only
    (repeat' split) <;> simp [Granted]
  | power o => unfold bayPower bayPowerOn bayPowerOff; (repeat' split) <;> simp [Granted]
  | move h t o => unfold moveBay; (repeat' split) <;> simp [Granted]
  | stop => unfold stopBay; (repeat' split) <;> simp [Granted]
  | clear => unfold clearBay; (repeat' split) <;> simp [Granted]
  | mapRead h a b => unfold Machine.mapRead; (repeat' split) <;> simp [Granted]
  | mapAccept r => unfold Machine.mapAccept; (repeat' split) <;> simp [Granted]
  | mapClear r o h => unfold Machine.mapClear; (repeat' split) <;> simp [Granted]
  | zone z o =>
    unfold zoneSet zoneDefine zoneUndefine
    dsimp only
    (repeat' split) <;> simp [Granted]
  | load o r =>
    unfold planLoad
    dsimp only
    (repeat' split) <;> simp [Granted]
  | probe i r => unfold probeBay; (repeat' split) <;> simp [Granted]
  | sweepStart => unfold Machine.sweepStart; (repeat' split) <;> simp [Granted]
  | sweepHold => unfold Machine.sweepHold; (repeat' split) <;> simp [Granted]
  | sweepResume => unfold Machine.sweepResume; (repeat' split) <;> simp [Granted]
  | sweepAbort => unfold Machine.sweepAbort; (repeat' split) <;> simp [Granted]
  | route p => unfold eventRoute; (repeat' split) <;> simp [Granted]

/-- An effect that is not answered OK or ADJUSTED leaves the part as it is. -/
theorem Effect.refuses {clears : Bool} {eff : State → State × Reply} (h : Effect clears eff) (s : State)
    (hok : (eff s).2.1 ≠ .ok) (hadj : (eff s).2.1 ≠ .adjusted) : (eff s).1 = s := by
  cases h with
  | replies => rfl
  | resets | snapshot | zeroesAll | zeroesOne => exact absurd rfl hok
  | asks b f hf =>
    rcases hf.granted (s.ctx b) with h | h | h
    · exact absurd h hok
    · exact absurd h hadj
    · simp only [onBayReply, h, commit_ctx]
  | status b mask =>
    unfold statusOf at hok ⊢
    split
    · rfl
    · rename_i hm
      rw [if_neg hm] at hok
      exact absurd rfl hok

/-- From `s` to `u` no answer has gone on the line, and at most an event frame has. -/
structure State.NoAnswerSent (s u : State) : Prop where
  replies : u.link.replies = s.link.replies
  line : u.link.line = s.link.line ∨ ∃ e, u.link.line = some (.event e)

section
variable {s : State}

/-- With the line free only when no answer waits, the offer of an event frame sends no answer. -/
theorem offerEvent_noAnswerSent (e : EventFrame) (h : s.link.line = none → s.link.replies = []) :
    s.NoAnswerSent (offerEvent s e) := by
  unfold offerEvent
  split
  · unfold arbiter
    split
    · exact ⟨rfl, .inl rfl⟩
    · rename_i hl hr
      simp only at hl hr
      simp [h hl] at hr
    · rename_i hl hr _
      exact ⟨rfl, .inr ⟨_, rfl⟩⟩
    · exact ⟨rfl, .inl rfl⟩
  · exact ⟨rfl, .inl rfl⟩

theorem commit_noAnswerSent (c : Ctx) (h : s.link.line = none → s.link.replies = []) :
    s.NoAnswerSent (commit c s) := by
  have folds (l : List EventFrame) (u : State) (hu : s.NoAnswerSent u)
      (hb : u.link.line = none → u.link.replies = []) : s.NoAnswerSent (l.foldl offerEvent u) := by
    induction l generalizing u with
    | nil => exact hu
    | cons e l ih =>
      obtain ⟨hr, hl⟩ := offerEvent_noAnswerSent e hb
      refine ih _ ⟨hr.trans hu.replies, ?_⟩ fun hn => hr.trans (hb ?_)
      · rcases hl with hl | hl
        · exact hl ▸ hu.line
        · exact .inr hl
      · rcases hl with hl | ⟨e', hl⟩
        · exact hl ▸ hn
        · simp [hl] at hn
  exact folds _ (putBay c s) ⟨rfl, .inl rfl⟩ h

theorem Effect.noAnswerSent {clears : Bool} {eff : State → State × Reply} (he : Effect clears eff)
    (h : s.link.line = none → s.link.replies = []) : s.NoAnswerSent (eff s).1 := by
  cases he with
  | replies | resets | snapshot | zeroesAll | zeroesOne => exact ⟨rfl, .inl rfl⟩
  | asks b f => exact commit_noAnswerSent _ h
  | status b mask =>
    unfold statusOf
    split
    · exact ⟨rfl, .inl rfl⟩
    · obtain ⟨hr, hl⟩ := commit_noAnswerSent (statusOfBay mask s.events (s.ctx b)).1 h
      unfold State.clearOverflow
      split <;> exact ⟨hr, hl⟩

/-- Offering event frames adds no answer. -/
theorem commit_replies (c : Ctx) (s : State) : (commit c s).link.replies.Sublist s.link.replies := by
  have folds (l : List EventFrame) (u : State) : (l.foldl offerEvent u).link.replies.Sublist u.link.replies := by
    induction l generalizing u with
    | nil => exact .refl _
    | cons e l ih =>
      refine (ih _).trans ?_
      unfold offerEvent
      split
      · unfold arbiter
        split
        · exact .refl _
        · rename_i hr
          simp only at hr
          rw [hr]
          exact List.sublist_cons_self _ _
        · exact .refl _
        · exact .refl _
      · exact .refl _
  exact folds _ (putBay c s)

theorem Effect.sublist {clears : Bool} {eff : State → State × Reply} (he : Effect clears eff) (s : State) :
    (eff s).1.link.replies.Sublist s.link.replies := by
  cases he with
  | replies | resets | snapshot | zeroesAll | zeroesOne => exact .refl _
  | asks b f => exact commit_replies _ s
  | status b mask =>
    unfold statusOf
    split
    · exact .refl _
    · have h := commit_replies (statusOfBay mask s.events (s.ctx b)).1 s
      unfold State.clearOverflow
      split <;> exact h

end

/-- A request row whose frame stands oldest and is not taken does nothing. -/
theorem request_not_taken (kind tag : Byte) (body : List Byte) (own : Bool) (eff : State → State × Reply)
    (s : State) (hq : s.link.rxQueue.head? = some ⟨kind, tag, body⟩)
    (h : own = false ∨ s.link.ready = false) : request kind tag body own eff s = s := by
  rcases h with h | h <;> simp [request, arrive, hq, h]

/-- Settles O22: a row takes its frame with one of the effects of `Effect`, none of which adds an answer. -/
theorem requestAnsweredOnce : Obligations.RequestAnsweredOnce := by
  intro i f own s hi hq
  obtain ⟨eff, he, hexec⟩ := exec_request hi
  refine ⟨fun ho hr => ?_, fun h => ?_⟩
  · refine ⟨(eff s.takeFrame).1, (eff s.takeFrame).2.1, (eff s.takeFrame).2.2, ?_, ?_, fun a ha => ?_, fun h => ?_⟩
    · rw [hexec, request_taken _ _ _ _ _ _ hq hr ho]
    · exact he.refuses s.takeFrame
    · have hmem : a ∈ s.link.replies := (he.sublist s.takeFrame).subset ha
      simp only [Link.ready, Bool.and_eq_true, List.all_eq_true] at hr
      simpa using hr.2 a hmem
    · obtain ⟨h1, h2⟩ := he.noAnswerSent (s := s.takeFrame) h
      exact ⟨h1, h2⟩
  · rw [hexec, request_not_taken _ _ _ _ _ _ hq h]

/-- A taken request that is answered with no other effect. -/
theorem request_answers {f : Frame} {eff : State → State × Reply} {s : State} {st : Status} {reply : List Byte}
    {own : Bool} (hs : s.takes f) (ho : own = true) (he : eff s.takeFrame = (s.takeFrame, st, reply)) :
    request f.kind f.tag f.body own eff s = s.answers f st reply := by
  rw [request_taken _ _ _ _ _ _ hs.1 hs.2 ho, he]
  rfl

/-- Settles O23: the rows' effects on a taken frame, by the body that its reader reads. -/
theorem identResetAndUnknownKind : Obligations.IdentResetAndUnknownKind := by
  refine ⟨fun s kind tag body hk hs => ?_, fun s tag => ⟨fun hs => ?_, fun b rest hs => ?_, fun hs => ?_,
    fun b rest hs => ?_⟩⟩ <;> refine congrArg Host.Outcome.next ?_
  · exact request_answers hs (by rw [hk]; rfl) rfl
  · exact request_answers hs rfl rfl
  · exact request_answers hs rfl rfl
  · exact request_taken _ _ _ _ _ _ hs.1 hs.2 rfl
  · exact request_answers hs rfl rfl

/-! ### The end of a frame (R178, R180) -/

theorem resetDue_iff (s : State) : s.resetDue = true ↔
    s.link.resetPending = true ∧ ∃ tag body, s.link.line = some (.answer ⟨0x02, tag, .ok, body, true⟩) := by
  unfold State.resetDue
  cases hl : s.link.line with
  | none => simp
  | some f =>
    cases f with
    | event e => simp
    | answer a =>
      obtain ⟨req, tag, st, body, taken⟩ := a
      simp only [Bool.and_eq_true, beq_iff_eq, Option.some.injEq, TxFrame.answer.injEq, Answer.mk.injEq]
      constructor
      · rintro ⟨hp, ⟨ht, hr⟩, hs⟩
        exact ⟨hp, tag, body, hr, rfl, hs, rfl, ht⟩
      · rintro ⟨hp, _, _, hr, _, hs, _, ht⟩
        exact ⟨hp, ⟨ht, hr⟩, hs⟩

/-- The records that a bay's part of the reset sends (R66, R180). -/
def Bay.resetSends (x : Bay) : List OutRecord :=
  if x.ctrl.state = .offline then [] else driveIfChanged x.ctrl.command 0 ++ [.power false]

theorem resetRecords_gives (s : State) (b : BayIx) : (resetRecords (s.ctx b)).frames = [] ∧
    (resetRecords (s.ctx b)).id = b ∧ (resetRecords (s.ctx b)).records = (s.bays.get b).resetSends := by
  by_cases ho : (s.bays.get b).ctrl.state = .offline
  · simp [resetRecords, Bay.resetSends, ho]
  · by_cases hc : 0 = (s.bays.get b).ctrl.command
    · simp [resetRecords, setCommand, Bay.resetSends, driveIfChanged, ho, ← hc]
    · simp [resetRecords, setCommand, Bay.resetSends, driveIfChanged, ho, hc]

/-- A bay's part of the reset sends its records and leaves the rest of the part as it is, but its bay. -/
theorem onBay_resetRecords (s : State) (b : BayIx) : onBay b resetRecords s =
    { s with
      bays := s.bays.set b (resetRecords (s.ctx b)).bay
      sentRecords := s.sentRecords.set b (s.sentRecords.get b ++ (s.bays.get b).resetSends) } := by
  obtain ⟨hf, hid, hr⟩ := resetRecords_gives s b
  rw [onBay, commit_of_no_frames _ _ hf, putBay, hid, hr]

/-- The reset takes effect: each bay's records have been sent, and every block is at its power-on values. -/
theorem resetEffect_eq (s : State) : resetEffect s = resetBlocks { s with
    sentRecords := ⟨s.sentRecords.b0 ++ s.bays.b0.resetSends, s.sentRecords.b1 ++ s.bays.b1.resetSends,
      s.sentRecords.b2 ++ s.bays.b2.resetSends, s.sentRecords.b3 ++ s.bays.b3.resetSends⟩ } := by
  simp only [resetEffect, allBays, List.foldl_cons, List.foldl_nil, onBay_resetRecords, resetBlocks, PerBay.set,
    PerBay.get]

theorem arbiter_of_answer {s : State} {a : Answer} {rest : List Answer} (hl : s.link.line = none)
    (hr : s.link.replies = a :: rest) : arbiter s = { s with
      link := { s.link with line := some (.answer a), replies := rest }
      sentFrames := s.sentFrames ++ [.answer a] } := by
  simp [arbiter, hl, hr, State.beginFrame]

theorem arbiter_of_event {s : State} {e : EventFrame} {rest : List EventFrame} (hl : s.link.line = none)
    (hr : s.link.replies = []) (he : s.events.frames = e :: rest) : arbiter s = { s with
      link := { s.link with line := some (.event e) }
      events := { s.events with frames := rest }
      sentFrames := s.sentFrames ++ [.event e] } := by
  simp [arbiter, hl, hr, he, State.beginFrame]

theorem arbiter_of_none {s : State} (hr : s.link.replies = []) (he : s.events.frames = []) : arbiter s = s := by
  simp only [arbiter, hr, he]
  split <;> simp_all

/-- Settles O24: the end of a frame is the reset's effect or nothing, and then the arbiter's choice. -/
theorem frameEnds : Obligations.FrameEnds := by
  refine ⟨?_, fun s hno => ?_⟩
  · intro s tag body out hp hl
    have hdue : s.resetDue = true := (resetDue_iff s).2 ⟨hp, tag, body, hl⟩
    have hends : s.endFrame = (resetEffect s).freeLine := by simp [State.endFrame, hl, hdue]
    have ht : s.endFrame = arbiter { s with
        bays := ⟨Bay.reset, Bay.reset, Bay.reset, Bay.reset⟩
        demod := ⟨none, .bay3⟩
        events := ⟨[], false⟩
        link := { s.link with rxQueue := [], resetPending := false, line := none,
                              replies := s.link.replies.filter fun a => !a.taken }
        sentRecords := ⟨s.sentRecords.b0 ++ out .bay0, s.sentRecords.b1 ++ out .bay1,
          s.sentRecords.b2 ++ out .bay2, s.sentRecords.b3 ++ out .bay3⟩ } := by
      rw [hends, resetEffect_eq]
      rfl
    refine ⟨?_, congrArg Host.Outcome.next ht⟩
    rw [← ht]
    exact congrArg Host.Outcome.next (if_pos hdue)
  · have hdue : s.resetDue = false := by
      rw [← Bool.not_eq_true, resetDue_iff]
      rintro ⟨hp, tag, body, hl⟩
      rcases hno with h | h
      · simp [h] at hp
      · exact h tag body hl
    refine ⟨congrArg Host.Outcome.next (if_neg (by simp [hdue])), fun hl => ?_, fun f hl => ?_⟩
    · exact congrArg Host.Outcome.next (by simp [State.endFrame, hl])
    · have hends : s.endFrame = s.freeLine := by simp [State.endFrame, hl, hdue]
      refine ⟨fun a rest hr => ?_, fun e rest hr he => ?_, fun hr he => ?_⟩ <;>
        refine congrArg Host.Outcome.next (hends.trans ?_)
      · exact arbiter_of_answer rfl hr
      · exact arbiter_of_event rfl hr he
      · exact arbiter_of_none hr he

/-! ### The event queue (R170) -/

/-- Event frames offered to a full queue set the overflow flag and no more. -/
theorem offerEvents_full {s : State} (e : EventFrame) (more : List EventFrame)
    (h : s.events.frames.length = Config.eventQueueSize) :
    (e :: more).foldl offerEvent s = { s with events := ⟨s.events.frames, true⟩ } := by
  induction more generalizing e s with
  | nil => simp [offerEvent, h]
  | cons e' more ih =>
    have hone : offerEvent s e = { s with events := ⟨s.events.frames, true⟩ } := by simp [offerEvent, h]
    rw [List.foldl_cons, hone, ih e' (s := { s with events := ⟨s.events.frames, true⟩ }) h]

theorem arbiter_of_busy {s : State} (h : s.link.line ≠ none) : arbiter s = s := by
  unfold arbiter
  split <;> simp_all

/-- A kind that is not latched offers one frame. -/
theorem offers_of_not_latch {u : EventUnit} (b : BayIx) {d : Details} (h : u.disposition d.kind ≠ .latch) :
    u.offers b d = [⟨b, d⟩] := by
  unfold EventUnit.offers
  split
  · exact absurd ‹_› h
  · rfl
  · rfl

/-- A frame offered below 16 on a busy line joins the tail. -/
theorem offerEvent_busy {s : State} (e : EventFrame) (hroom : s.events.frames.length < Config.eventQueueSize)
    (hl : s.link.line ≠ none) :
    offerEvent s e = { s with events := ⟨s.events.frames ++ [e], s.events.overflow⟩ } := by
  rw [offerEvent, if_pos hroom, arbiter_of_busy]
  exact hl

/-- A frame offered on a free line with nothing waiting begins at once. -/
theorem offerEvent_idle {s : State} (e : EventFrame) (hl : s.link.line = none) (hr : s.link.replies = [])
    (he : s.events.frames = []) : offerEvent s e = { s with
      link := { s.link with line := some (.event e) }
      sentFrames := s.sentFrames ++ [.event e] } := by
  obtain ⟨bays, demod, ⟨frames, overflow⟩, link, sentRecords, sentFrames, pending⟩ := s
  simp only at he
  subst he
  exact arbiter_of_event hl hr rfl

/-- Settles O25: an offer at a full queue, on a busy line, and on a free line with nothing waiting. -/
theorem eventFramesQueue : Obligations.EventFramesQueue := by
  refine ⟨?_, ?_⟩
  · intro s b x e more records u
    exact ⟨fun hfull => offerEvents_full (s := u) e more hfull, fun hroom hl => offerEvent_busy (s := u) e hroom hl,
      fun hl hr he => offerEvent_idle (s := u) e hl hr he⟩
  · intro s b w x hwf hpow hfull hdisp hq
    rw [exec_wedge_of_reaches hwf hpow, onBay, takeWedge_of_full w hfull, raise_eq]
    simp only [State.ctx_frames, State.ctx_id, List.nil_append, commit, State.ctx_bay]
    rw [offers_of_not_latch b hdisp]
    refine congrArg Host.Outcome.next ((offerEvents_full (s := putBay _ s) _ _ hq).trans ?_)
    simp [putBay, x]

end Sys2Proof.Machine

namespace Sys2Proof.Machine

/-! SUPPORT. Bytes (section 10.7): what little-endian bytes read back as, the round trip of a fixture record, the
receiver on the bytes of a frame, and statements O13 and O14. -/

/-! ### Byte order (R184) -/

@[simp] theorem length_leBytes (n : Nat) (v : Int) : (leBytes n v).length = n := by
  induction n generalizing v with
  | zero => rfl
  | succ n ih => simp [leBytes, ih]

/-- Little-endian bytes give the number modulo their range. -/
theorem leNat_leBytes (n : Nat) (v : Int) : (leNat (leBytes n v) : Int) = v % 256 ^ n := by
  induction n generalizing v with
  | zero => simp [leBytes, leNat]
  | succ n ih =>
    have hmul : v % (256 * 256 ^ n) = v % 256 + 256 * (v / 256 % 256 ^ n) := by
      rw [Int.emod_def, Int.emod_def v 256, Int.emod_def (v / 256), Int.ediv_ediv_of_nonneg (by decide)]
      ring
    simp only [leBytes, leNat, BitVec.toNat_ofInt, Nat.cast_add, Nat.cast_mul, ih, pow_succ']
    rw [hmul]
    norm_num
    omega

/-- A number in the range of its bytes is read back. -/
theorem leNat_leBytes_of_lt {n v : Nat} (h : v < 256 ^ n) : leNat (leBytes n v) = v := by
  have e := leNat_leBytes n v
  rw [Int.emod_eq_of_lt (by omega) (by exact_mod_cast h)] at e
  exact_mod_cast e

theorem signed16_leBytes {v : Int} (h1 : -32768 ≤ v) (h2 : v ≤ 32767) : signed16 (leNat (leBytes 2 v)) = v := by
  have e := leNat_leBytes 2 v
  norm_num at e
  unfold signed16
  split <;> omega

theorem toNat_ofNat_byte {n : Nat} (h : n < 256) : (BitVec.ofNat 8 n).toNat = n := by
  simp [Nat.mod_eq_of_lt h]

/-! ### Fixture records -/

/-- The bits of a byte are the eight bits that it was made of. -/
theorem byteBits_bitsByte (l : List Bool) : byteBits (bitsByte l) =
    [l.getD 0 false, l.getD 1 false, l.getD 2 false, l.getD 3 false, l.getD 4 false, l.getD 5 false,
      l.getD 6 false, l.getD 7 false] := by
  unfold bitsByte
  simp only
  generalize l.getD 0 false = b0, l.getD 1 false = b1, l.getD 2 false = b2, l.getD 3 false = b3
  generalize l.getD 4 false = b4, l.getD 5 false = b5, l.getD 6 false = b6, l.getD 7 false = b7
  revert b0 b1 b2 b3 b4 b5 b6 b7
  decide

@[simp] theorem length_packBits (k : Nat) (bits : List Bool) : (packBits k bits).length = k := by
  induction k generalizing bits with
  | zero => rfl
  | succ k ih => simp [packBits, ih]

/-- Up to eight bits and zeros after them, cut to their length, are the bits. -/
theorem take_eight : ∀ l : List Bool, l.length ≤ 8 →
    [l.getD 0 false, l.getD 1 false, l.getD 2 false, l.getD 3 false, l.getD 4 false, l.getD 5 false,
      l.getD 6 false, l.getD 7 false].take l.length = l
  | [], _ => rfl
  | [_], _ => rfl
  | [_, _], _ => rfl
  | [_, _, _], _ => rfl
  | [_, _, _, _], _ => rfl
  | [_, _, _, _, _], _ => rfl
  | [_, _, _, _, _, _], _ => rfl
  | [_, _, _, _, _, _, _], _ => rfl
  | [_, _, _, _, _, _, _, _], _ => rfl
  | _ :: _ :: _ :: _ :: _ :: _ :: _ :: _ :: _ :: _, h => by simp at h; omega

/-- The bits of packed bytes begin with the bits that were packed. -/
theorem take_packBits (k : Nat) (bits : List Bool) (h : bits.length ≤ 8 * k) :
    ((packBits k bits).flatMap byteBits).take bits.length = bits := by
  induction k generalizing bits with
  | zero =>
    have hnil : bits = [] := List.eq_nil_of_length_eq_zero (by omega)
    simp [hnil, packBits]
  | succ k ih =>
    have hfirst := take_eight (bits.take 8) (by simp)
    have hlen : (byteBits (bitsByte (bits.take 8))).length = 8 := by rw [byteBits_bitsByte]; rfl
    rw [← byteBits_bitsByte, List.length_take] at hfirst
    rw [packBits, List.flatMap_cons, List.take_append, hlen]
    have hrest := ih (bits.drop 8) (by rw [List.length_drop]; omega)
    rw [List.length_drop] at hrest
    rw [hrest]
    have htake : (byteBits (bitsByte (bits.take 8))).take bits.length = bits.take 8 := by
      by_cases h8 : bits.length ≤ 8
      · rwa [Nat.min_eq_right h8] at hfirst
      · rw [Nat.min_eq_left (by omega)] at hfirst
        rw [List.take_of_length_le (by omega)] at hfirst ⊢
        · exact hfirst
    rw [htake, List.take_append_drop]

theorem leNat_burst {v : Nat} (h : v ≤ 4095) : leNat (leBytes 2 v) = v :=
  leNat_leBytes_of_lt (by norm_num; omega)

/-- A record in range is read back from its bytes. -/
theorem parseLayout_bytes (r : InRecord) (h : r.wellFormed = true) : parseLayout r.bytes = some r := by
  cases r with
  | wedge w =>
    obtain ⟨head, sync⟩ := w
    cases sync with
    | none =>
      simp only [InRecord.wellFormed, Wedge.wellFormed, Bool.and_eq_true, decide_eq_true_eq] at h
      have e : parseLayout (InRecord.bytes (.wedge ⟨head, none⟩)) =
        some (.wedge ⟨(BitVec.ofNat 8 head).toNat, none⟩) := rfl
      rw [e, toNat_ofNat_byte (by omega)]
    | some y =>
      obtain ⟨i, a, b, c, d, track⟩ := y
      cases track with
      | none =>
        simp only [InRecord.wellFormed, Wedge.wellFormed, Bool.and_eq_true, decide_eq_true_eq] at h
        obtain ⟨hh, ⟨⟨⟨⟨hi, ha⟩, hb⟩, hc⟩, hd⟩, _⟩ := h
        have e : parseLayout (InRecord.bytes (.wedge ⟨head, some ⟨i, a, b, c, d, none⟩⟩)) =
          some (.wedge ⟨(BitVec.ofNat 8 head).toNat, some ⟨(BitVec.ofNat 8 i).toNat, leNat (leBytes 2 a),
            leNat (leBytes 2 b), leNat (leBytes 2 c), leNat (leBytes 2 d), none⟩⟩) := rfl
        rw [e, toNat_ofNat_byte (by omega), toNat_ofNat_byte (by omega), leNat_burst ha, leNat_burst hb,
          leNat_burst hc, leNat_burst hd]
      | some t =>
        simp only [InRecord.wellFormed, Wedge.wellFormed, Bool.and_eq_true, decide_eq_true_eq] at h
        obtain ⟨hh, ⟨⟨⟨⟨hi, ha⟩, hb⟩, hc⟩, hd⟩, ht⟩ := h
        have e : parseLayout (InRecord.bytes (.wedge ⟨head, some ⟨i, a, b, c, d, some t⟩⟩)) =
          some (.wedge ⟨(BitVec.ofNat 8 head).toNat, some ⟨(BitVec.ofNat 8 i).toNat, leNat (leBytes 2 a),
            leNat (leBytes 2 b), leNat (leBytes 2 c), leNat (leBytes 2 d), some (leNat (leBytes 3 t))⟩⟩) := rfl
        rw [e, toNat_ofNat_byte (by omega), toNat_ofNat_byte (by omega), leNat_burst ha, leNat_burst hb,
          leNat_burst hc, leNat_burst hd, leNat_leBytes_of_lt (n := 3) (by norm_num; exact ht.trans_lt (by decide))]
  | readback bits =>
    simp only [InRecord.wellFormed, Bool.and_eq_true, decide_eq_true_eq] at h
    have e : parseLayout (InRecord.bytes (.readback bits)) =
        if (packBits ((bits.length + 7) / 8) bits).length = (leNat (leBytes 2 bits.length) + 7) / 8 then
          some (.readback (((packBits ((bits.length + 7) / 8) bits).flatMap byteBits).take
            (leNat (leBytes 2 bits.length))))
        else none := rfl
    rw [e, leNat_leBytes_of_lt (by norm_num; omega), if_pos (by simp), take_packBits _ _ (by omega)]
  | temp v =>
    simp only [InRecord.wellFormed, Bool.and_eq_true, decide_eq_true_eq] at h
    have e : parseLayout (InRecord.bytes (.temp v)) = some (.temp (signed16 (leNat (leBytes 2 v)))) := rfl
    rw [e, signed16_leBytes (by omega) (by omega)]
  | fault a => cases a <;> rfl
  | writeDone => rfl

/-! ### The receiver (R175, R176) -/

theorem setReceiver_self {s : State} (h : s.link.receiver = .hunting) : s.setReceiver .hunting = s := by
  simp [State.setReceiver, ← h]

theorem setReceiver_closed (s : State) (r : Receiver) : (s.setReceiver r).link.closed = s.link.closed := rfl

/-- A byte at an open receiver whose bytes give no frame. -/
theorem receiveByte_of_none {s : State} {b : Byte} {r : Receiver} (hc : s.link.closed = false)
    (h : s.link.receiver.step b = (r, none)) : receiveByte s b = s.setReceiver r := by
  simp [receiveByte, hc, h]

/-- The receiver before the last byte of a frame: it goes on assembling. -/
theorem receiverAfter_take {l0 l1 : Byte} {rest : List Byte} (h1 : 2 ≤ leNat [l0, l1])
    (h2 : leNat [l0, l1] ≤ 1022) (hlen : rest.length = leNat [l0, l1] + 2) {k : Nat}
    (hk : k < (l0 :: l1 :: rest).length) :
    receiverAfter ((l0 :: l1 :: rest).take k) = (.assembling ((l0 :: l1 :: rest).take k), none) := by
  match k with
  | 0 => rfl
  | 1 => rfl
  | k + 2 =>
    have hshort : (rest.take k).length < leNat [l0, l1] + 2 := by
      simp at hk ⊢
      omega
    have hfits : ¬(leNat [l0, l1] < Config.lengthMin ∨ Config.lengthMax < leNat [l0, l1]) := by
      simp only [Config.lengthMin, Config.lengthMax]
      omega
    rw [List.take_succ_cons, List.take_succ_cons, receiverAfter, if_neg hfits, if_pos hshort]

/-- The bytes after a start byte, up to the last, are assembled. -/
theorem receiveBytes_take {s : State} {t : List Byte} (hc : s.link.closed = false)
    (ht : ∀ k < t.length, receiverAfter (t.take k) = (.assembling (t.take k), none)) {k : Nat}
    (hk : k < t.length) :
    receiveBytes (t.take k) (s.setReceiver (.assembling [])) = s.setReceiver (.assembling (t.take k)) := by
  induction k with
  | zero => rfl
  | succ k ih =>
    have htake : t.take (k + 1) = t.take k ++ [t[k]] := by
      rw [List.take_add_one, List.getElem?_eq_getElem (by omega)]
      rfl
    rw [receiveBytes, htake, List.foldl_append]
    rw [receiveBytes] at ih
    rw [ih (by omega), List.foldl_cons, List.foldl_nil, ← htake]
    refine receiveByte_of_none (s := s.setReceiver _) (r := .assembling (t.take (k + 1))) hc ?_
    show receiverAfter (t.take k ++ [t[k]]) = _
    rw [← htake]
    exact ht _ hk

/-- A start byte and as many bytes as their length says, at an open receiver that hunts. -/
theorem receiveBytes_whole {s : State} {l0 l1 : Byte} {rest : List Byte} (hr : s.link.receiver = .hunting)
    (hc : s.link.closed = false) (h1 : 2 ≤ leNat [l0, l1]) (h2 : leNat [l0, l1] ≤ 1022)
    (hlen : rest.length = leNat [l0, l1] + 2) :
    receiveBytes (Config.startByte :: l0 :: l1 :: rest) s =
      match checkFrame (l0 :: l1 :: rest) with
      | some f => offerFrame s f
      | none => s := by
  have hafter := fun k => receiverAfter_take (rest := rest) h1 h2 hlen (k := k)
  have hlast : receiverAfter (l0 :: l1 :: rest) = (.hunting, checkFrame (l0 :: l1 :: rest)) := by
    have hfits : ¬(leNat [l0, l1] < Config.lengthMin ∨ Config.lengthMax < leNat [l0, l1]) := by
      simp only [Config.lengthMin, Config.lengthMax]
      omega
    rw [receiverAfter, if_neg hfits, if_neg (by omega)]
  have hstart : receiveByte s Config.startByte = s.setReceiver (.assembling []) :=
    receiveByte_of_none hc (by rw [hr]; rfl)
  generalize ht : l0 :: l1 :: rest = t at hafter hlast ⊢
  have hne : t ≠ [] := by simp [← ht]
  have hinit := receiveBytes_take hc hafter (k := t.length - 1) (by have := List.length_pos_iff.2 hne; omega)
  rw [← List.dropLast_eq_take] at hinit
  have hbyte : receiveByte (s.setReceiver (.assembling t.dropLast)) (t.getLast hne) =
      match checkFrame t with
      | some f => offerFrame (s.setReceiver .hunting) f
      | none => s.setReceiver .hunting := by
    have hstep : (Receiver.assembling t.dropLast).step (t.getLast hne) = (.hunting, checkFrame t) := by
      rw [Receiver.step, List.dropLast_append_getLast, hlast]
    unfold receiveByte
    rw [if_neg (by rw [setReceiver_closed, hc]; nofun)]
    simp only [show (s.setReceiver (.assembling t.dropLast)).link.receiver = .assembling t.dropLast from rfl, hstep]
    rfl
  calc receiveBytes (Config.startByte :: t) s = receiveBytes t (s.setReceiver (.assembling [])) := by
        rw [← hstart]
        rfl
    _ = receiveByte (s.setReceiver (.assembling t.dropLast)) (t.getLast hne) := by
        rw [← hinit]
        conv_lhs => rw [← List.dropLast_append_getLast hne]
        simp [receiveBytes]
    _ = _ := by
        rw [hbyte, setReceiver_self hr]

/-- The length that a frame states, as its bytes. -/
theorem frameCovered_eq (kind tag : Byte) {body : List Byte} (hb : bodyFits body = true) :
    ∃ l0 l1, frameCovered kind tag body = l0 :: l1 :: kind :: tag :: body ∧ leNat [l0, l1] = body.length + 2 := by
  refine ⟨_, _, rfl, ?_⟩
  have hlen : body.length + 2 ≤ 1022 := by simpa [bodyFits, Config.lengthMax] using hb
  exact_mod_cast leNat_leBytes_of_lt (n := 2) (v := body.length + 2) (by norm_num; omega)

/-- The check of a frame's bytes passes when its check bytes are its sums. -/
theorem checkFrame_covered (kind tag c0 c1 : Byte) {body : List Byte} (hb : bodyFits body = true) :
    checkFrame (frameCovered kind tag body ++ [c0, c1]) =
      if [c0, c1] = [BitVec.ofNat 8 (fletcher (frameCovered kind tag body)).1,
          BitVec.ofNat 8 (fletcher (frameCovered kind tag body)).2]
      then some ⟨kind, tag, body⟩ else none := by
  obtain ⟨l0, l1, hcov, hn⟩ := frameCovered_eq kind tag hb
  rw [hcov]
  simp only [List.cons_append, checkFrame, hn]
  simp

/-- A frame's bytes, at an open receiver that hunts: the frame is offered if its check bytes are its sums. -/
theorem receiveBytes_frame {s : State} (kind tag c0 c1 : Byte) {body : List Byte} (hb : bodyFits body = true)
    (hr : s.link.receiver = .hunting) (hc : s.link.closed = false) :
    receiveBytes (Config.startByte :: (frameCovered kind tag body ++ [c0, c1])) s =
      if [c0, c1] = [BitVec.ofNat 8 (fletcher (frameCovered kind tag body)).1,
          BitVec.ofNat 8 (fletcher (frameCovered kind tag body)).2]
      then offerFrame s ⟨kind, tag, body⟩ else s := by
  obtain ⟨l0, l1, hcov, hn⟩ := frameCovered_eq kind tag hb
  have hlen : body.length + 2 ≤ 1022 := by simpa [bodyFits, Config.lengthMax] using hb
  have hcheck := checkFrame_covered kind tag c0 c1 hb
  have hwhole := receiveBytes_whole (s := s) (l0 := l0) (l1 := l1) (rest := kind :: tag :: (body ++ [c0, c1])) hr hc
    (by omega) (by omega) (by simp [hn])
  rw [hcov] at hcheck ⊢
  simp only [List.cons_append] at hcheck ⊢
  rw [hwhole, hcheck]
  split_ifs <;> rfl

/-- Settles O13: the readers of the layouts, and the receiver on the bytes of a frame. -/
theorem bytesAreRead : Obligations.BytesAreRead := by
  refine ⟨fun r h => ?_, fun s kind tag body hb hr hc => congrArg Host.Outcome.next ?_⟩
  · simp [parseRecord, parseLayout_bytes r h, h]
  · exact (receiveBytes_frame kind tag _ _ hb hr hc).trans (if_pos rfl)

/-! ### What is discarded (R22, R23, R174 to R176) -/

theorem reaches_offline {s : State} {b : BayIx} (h : (s.bays.get b).ctrl.state = .offline) (r : InRecord) :
    reaches b r s = false := by
  simp [reaches, State.offline, h]

theorem reaches_malformed {r : InRecord} (h : r.wellFormed = false) (b : BayIx) (s : State) :
    reaches b r s = false := by
  simp [reaches, h]

/-- A record that does not reach its block changes nothing. -/
theorem ite_reaches {s : State} {b : BayIx} {r : InRecord} (h : reaches b r s = false) (f : Ctx → Ctx) :
    (if reaches b r s = true then onBay b f s else s) = s := by
  simp [h]

theorem recordArrives_offline {s : State} {b : BayIx} (h : (s.bays.get b).ctrl.state = .offline)
    (bytes : List Byte) : recordArrives b bytes s = s := by
  unfold recordArrives
  split
  · exact ite_reaches (reaches_offline h _) _
  · rfl

/-- A closed receiver discards every byte. -/
theorem receiveBytes_closed {s : State} (hc : s.link.closed = true) {bytes : List Byte} (h : bytes ≠ []) :
    receiveBytes bytes s = s.setReceiver .hunting := by
  have hone (u : State) (hu : u.link.closed = true) (b : Byte) : receiveByte u b = u.setReceiver .hunting := by
    simp [receiveByte, hu]
  have hall (l : List Byte) : receiveBytes l (s.setReceiver .hunting) = s.setReceiver .hunting := by
    induction l with
    | nil => rfl
    | cons b l ih =>
      rw [receiveBytes, List.foldl_cons, hone (s.setReceiver .hunting) hc]
      exact ih
  cases bytes with
  | nil => exact absurd rfl h
  | cons b l =>
    rw [receiveBytes, List.foldl_cons, hone s hc]
    exact hall l

/-- A start byte with a length that no frame may state leaves the receiver hunting. -/
theorem receiveBytes_length {s : State} {lo hi : Byte} (hr : s.link.receiver = .hunting)
    (hc : s.link.closed = false) (h : ¬(2 ≤ lo.toNat + 256 * hi.toNat ∧ lo.toNat + 256 * hi.toNat ≤ 1022)) :
    receiveBytes [Config.startByte, lo, hi] s = s := by
  have hn : leNat [lo, hi] < Config.lengthMin ∨ Config.lengthMax < leNat [lo, hi] := by
    simp only [leNat, Config.lengthMin, Config.lengthMax, Nat.mul_zero, Nat.add_zero]
    omega
  have h1 : receiveByte s Config.startByte = s.setReceiver (.assembling []) :=
    receiveByte_of_none hc (by rw [hr]; rfl)
  have h2 : receiveByte (s.setReceiver (.assembling [])) lo = s.setReceiver (.assembling [lo]) :=
    receiveByte_of_none (s := s.setReceiver _) hc rfl
  have h3 : receiveByte (s.setReceiver (.assembling [lo])) hi = s.setReceiver .hunting :=
    receiveByte_of_none (s := s.setReceiver _) hc (if_pos hn)
  rw [receiveBytes, List.foldl_cons, List.foldl_cons, List.foldl_cons, List.foldl_nil, h1, h2, h3,
    setReceiver_self hr]

/-- Settles O14: a record that does not reach its block, a frame that fails its check, a length out of range,
and bytes at a closed receiver. -/
theorem badInputsAreDiscarded : Obligations.BadInputsAreDiscarded := by
  refine ⟨fun s b ho => ?_, fun s b => ?_, fun s kind tag c0 c1 body hb hr hc hne => ?_,
    fun s lo hi hr hc h => ?_, fun s => rfl, fun s hfull h4 => ?_⟩
  · have offline (r : InRecord) (f : Ctx → Ctx) := congrArg Host.Outcome.next (α := State) (β := Host.Outcome State Fault Refusal)
      (ite_reaches (reaches_offline ho r) f)
    exact ⟨fun w => offline (.wedge w) _, fun bits => offline (.readback bits) _, fun v => offline (.temp v) _,
      fun a => offline (.fault a) _, offline .writeDone _,
      fun bytes => congrArg Host.Outcome.next (recordArrives_offline ho bytes)⟩
  · have malformed (r : InRecord) (h : r.wellFormed = false) (f : Ctx → Ctx) :=
      congrArg Host.Outcome.next (α := State) (β := Host.Outcome State Fault Refusal) (ite_reaches (reaches_malformed h b s) f)
    refine ⟨fun w h => malformed (.wedge w) h _, fun bits h => malformed (.readback bits) ?_ _,
      fun v h => malformed (.temp v) ?_ _, fun bytes h => congrArg Host.Outcome.next ?_⟩
    · rw [← Bool.not_eq_true]
      simpa [InRecord.wellFormed] using h
    · rw [← Bool.not_eq_true]
      simpa [InRecord.wellFormed] using h
    · simp [recordArrives, h]
  · exact congrArg Host.Outcome.next ((receiveBytes_frame kind tag c0 c1 hb hr hc).trans (if_neg hne))
  · exact congrArg Host.Outcome.next (receiveBytes_length hr hc h)
  · have hc : s.link.closed = true := by
      simp only [Link.closed, Link.refusing, Bool.and_eq_true, Bool.or_eq_true, decide_eq_true_eq]
      exact ⟨hfull.symm, h4⟩
    exact ⟨fun bytes h => congrArg Host.Outcome.next (receiveBytes_closed hc h),
      fun lo hi => congrArg Host.Outcome.next (receiveBytes_closed hc nofun)⟩

end Sys2Proof.Machine

namespace Sys2Proof.Machine

/-! SUPPORT. What the operations of the bay controller do to the whole bay at work (chapter 3), the take of a
request to a bay, and statements O48, O49 and O53. -/

/-! ### The operations of the bay controller, on the bay at work -/

section
variable (c : Ctx)

/-- All that a change of the command does (R66). -/
theorem setCommand_eq (v : Int) : setCommand v c = { c with
    bay := { c.bay with ctrl := { c.bay.ctrl with command := v } }
    records := c.records ++ driveIfChanged c.bay.ctrl.command v } := by
  unfold setCommand driveIfChanged
  by_cases h : v = c.bay.ctrl.command
  · subst h; simp
  · simp [h, Ctx.setCtrl, Ctx.send]

/-- All that a head select of another head does (R55). -/
theorem headSelect_eq {h : Nat} (e : h ≠ c.bay.ctrl.selHead) : headSelect h c = { c with
    bay := { c.bay with
      acq := { c.bay.acq with run := 0, loss := 0 }
      counter := { c.bay.counter with qp := none, resolved := false }
      ctrl := { c.bay.ctrl with selHead := h, switchWait := c.bay.profile.headSwitchWedges, settle := 0 } }
    records := c.records ++ [.head h] } := by
  simp [headSelect, e, Ctx.setCtrl, Ctx.send, Ctx.setCounter, Ctx.setAcq, Counter.unresolve]

/-- Naming the head that is the loop head and selected does nothing (R56). -/
theorem setLoopHead_same {h : Nat} (hl : h = c.bay.ctrl.loopHead) (hs : h = c.bay.ctrl.selHead) :
    setLoopHead h c = c := by
  rw [setLoopHead, if_pos (show h = c.ctrl.loopHead from hl), headSelect_same _ _ hs]

/-- All that entering IDLE by a request does (R49, R50). -/
theorem enterIdle_eq : enterIdle c = { c with
    bay := { c.bay with
      acq := { c.bay.acq with run := 0 }
      ctrl := { c.bay.ctrl with
        state := .idle, targetFinal := none, targetNow := none, prevErr := none, settle := 0
        command := restOutput c.bay.profile c.bay.ctrl.command } }
    records := c.records ++
      driveIfChanged c.bay.ctrl.command (restOutput c.bay.profile c.bay.ctrl.command) } := by
  rw [enterIdle, setCommand_eq]
  rfl

/-- The rest output by the three settings (R64). -/
theorem restOutput_eq (p : Profile) (v : Int) : restOutput p v = match p.restOutput with
    | .holdLast => max (-(p.currentLimit : Int)) (min p.currentLimit v)
    | .zero => 0
    | .park => max (-(p.currentLimit : Int)) (min p.currentLimit p.parkCurrent) := by
  unfold restOutput parkOutput
  cases p.restOutput <;> simp [clampSym_eq]

/-- Whether the cutoff condition is present (R157, R160). -/
theorem cutoffPresent_iff (p : Profile) (t : Thermal) : cutoffPresent p t = true ↔
    t.cutoff = true ∨ (t.line = true ∧ p.faultLineAction = .cutoff) := by
  simp [cutoffPresent]

theorem byte1_eq (n : Nat) : byte1 n = [BitVec.ofNat 8 n] := by
  simp [byte1, leBytes]

theorem stateByte_eq : stateByte c = [BitVec.ofNat 8 c.bay.ctrl.state.code] := byte1_eq _
end

/-! ### The take of a request to a bay (R177) -/

section
variable {s : State} {b : BayIx} {f : Frame} {own : Bool} {eff : State → State × Reply} {g : Ctx → Ctx × Reply}
  {st : Status} {reply : List Byte}

theorem withBay_byte (b : BayIx) (g : Ctx → Ctx × Reply) : withBay b.byte g = onBayReply b g := by
  funext s
  simp [withBay]

/-- A bay byte above 3 names no bay. -/
theorem bayOfByte_none {v : Byte} (h : 3 < v.toNat) : bayOfByte v = none := by
  unfold bayOfByte
  (repeat' split) <;> first | rfl | (subst_vars; simp at h)

theorem withBay_none {v : Byte} (h : 3 < v.toNat) (s : State) : withBay v g s = (s, .badBay, []) := by
  simp only [withBay, bayOfByte_none h]

/-- A taken request, by what its effect gives. -/
theorem request_gives {r : State × Reply} (hs : s.takes f) (ho : own = true) (he : eff s.takeFrame = r) :
    request f.kind f.tag f.body own eff s = addAnswer r.1 ⟨f.kind, f.tag, r.2.1, r.2.2, true⟩ := by
  rw [request_taken _ _ _ _ _ _ hs.1 hs.2 ho, he]

/-- A bay that leaves itself as it is answers with no other effect. -/
theorem bay_answers (hs : s.takes f) (ho : own = true)
    (he : eff s.takeFrame = onBayReply b g s.takeFrame) (hg : g (s.ctx b) = (s.ctx b, st, reply)) :
    request f.kind f.tag f.body own eff s = s.answers f st reply := by
  refine request_answers hs ho (he.trans ?_)
  have hg' : g (s.takeFrame.ctx b) = (s.takeFrame.ctx b, st, reply) := hg
  simp only [onBayReply, hg', commit_ctx]

/-- A bay that changes commits its work and answers. -/
theorem bay_grants {x : Bay} {frames : List EventFrame} {records : List OutRecord} {notes : List Note}
    (hs : s.takes f) (ho : own = true) (he : eff s.takeFrame = onBayReply b g s.takeFrame)
    (hg : g (s.ctx b) = (⟨b, x, frames, records, notes⟩, st, reply)) :
    request f.kind f.tag f.body own eff s = s.grants f b x frames records st reply := by
  have hg' : g (s.takeFrame.ctx b) = (⟨b, x, frames, records, notes⟩, st, reply) := hg
  rw [request_taken _ _ _ _ _ _ hs.1 hs.2 ho, he, onBayReply, hg']
  rfl
end
/-! ### STOP and CLEAR (R49, R50) -/

/-- The bay that STOP or CLEAR takes to IDLE, and the DRIVE record that leaves. -/
theorem enterIdle_grants {s : State} {f : Frame} {b : BayIx} {g : Ctx → Ctx × Reply} {eff : State → State × Reply}
    (hs : s.takes f) (he : eff s.takeFrame = onBayReply b g s.takeFrame)
    (hg : g (s.ctx b) = (enterIdle (s.ctx b), .ok, stateByte (enterIdle (s.ctx b)))) :
    request f.kind f.tag f.body true eff s = s.grants f b
      { s.bays.get b with
        acq := { (s.bays.get b).acq with run := 0 }
        ctrl := { (s.bays.get b).ctrl with
          state := .idle, targetFinal := none, targetNow := none, prevErr := none, settle := 0
          command := restOutput (s.bays.get b).profile (s.bays.get b).ctrl.command } }
      [] (driveIfChanged (s.bays.get b).ctrl.command (restOutput (s.bays.get b).profile (s.bays.get b).ctrl.command))
      .ok [1] := by
  refine bay_grants hs rfl he (notes := []) ?_
  rw [hg, stateByte_eq, enterIdle_eq]
  rfl

/-- Settles O49, by the states in which STOP and CLEAR act. -/
theorem stopAndClear : Obligations.StopAndClear := by
  intro s tag b x stop clear state cutoff out idle
  have hout : restOutput x.profile x.ctrl.command = out := restOutput_eq _ _
  have hbyte : stateByte (s.ctx b) = state := stateByte_eq _
  refine ⟨fun hs => ⟨fun h => ?_, fun h => ?_, fun h => ?_⟩,
    fun hs => ⟨fun h hc => ?_, fun h hc => ?_, fun h => ?_⟩⟩ <;> refine congrArg Host.Outcome.next ?_
  · refine (enterIdle_grants hs (congrFun (withBay_byte b stopBay) _) ?_).trans (by rw [hout])
    rcases h with h | ⟨h, hi⟩
    · simp [stopBay, show (s.bays.get b).ctrl.state = _ from h]
    · simp [stopBay, show (s.bays.get b).ctrl.state = _ from h, show (s.bays.get b).acq.intent = _ from hi]
  · refine bay_answers hs rfl (congrFun (withBay_byte b stopBay) _) ?_
    simp [stopBay, show (s.bays.get b).ctrl.state = _ from h, stateByte_eq, BayState.code]
  · refine bay_answers hs rfl (congrFun (withBay_byte b stopBay) _) ?_
    rw [← hbyte]
    unfold stopBay
    split <;> simp_all [x]
  · refine (enterIdle_grants hs (congrFun (withBay_byte b clearBay) _) ?_).trans (by rw [hout])
    have hcut : cutoffPresent x.profile x.thermal ≠ true := fun h => hc ((cutoffPresent_iff _ _).1 h)
    simp [clearBay, show (s.bays.get b).ctrl.state = _ from h, show cutoffPresent _ _ = false by simpa using hcut, x]
  · refine bay_answers hs rfl (congrFun (withBay_byte b clearBay) _) ?_
    have hcut : cutoffPresent (s.bays.get b).profile (s.bays.get b).thermal = true := (cutoffPresent_iff _ _).2 hc
    simp [clearBay, show (s.bays.get b).ctrl.state = _ from h, hcut, stateByte_eq, BayState.code]
  · refine bay_answers hs rfl (congrFun (withBay_byte b clearBay) _) ?_
    rw [← hbyte]
    unfold clearBay
    split
    · exact absurd ‹_› h
    · rfl

/-! ### MOVE (R47, R48) -/

theorem readMove_moveBody (b : BayIx) {head track : Nat} {offset : Int} (hh : head ≤ 255) (ht : track < 4294967296)
    (h1 : -32767 ≤ offset) (h2 : offset ≤ 32767) :
    readMove (moveBody b head track offset) = some (b.byte, head, track, offset) := by
  have h4 : leNat (leBytes 4 (track : Int)) = track := leNat_leBytes_of_lt (by omega)
  have h5 : signed16 (leNat (leBytes 2 offset)) = offset := signed16_leBytes (by omega) h2
  have h6 : (BitVec.ofNat 8 head).toNat = head := toNat_ofNat_byte (by omega)
  simp only [leBytes] at h4 h5
  simp only [moveBody, readMove, leBytes, List.cons_append, List.nil_append, h4, h5, h6]

theorem moveFits_iff (p : Profile) (head track : Nat) {offset : Int} (h : -32767 ≤ offset) :
    moveFits p head track offset = true ↔ head < p.headCount ∧ track ≤ 524287 ∧
      -2048 ≤ (track : Int) * 4096 + offset ∧ (track : Int) * 4096 + offset ≤ 2147481600 := by
  simp only [moveFits, Bool.and_eq_true, decide_eq_true_eq, and_assoc]
  exact ⟨fun ⟨h1, h2, _, h3⟩ => ⟨h1, h2, h3⟩, fun ⟨h1, h2, h3⟩ => ⟨h1, h2, h, h3⟩⟩

section
variable (c : Ctx) (head : Nat) (target : Int)

/-- All that MOVE does in IDLE. -/
theorem moveIdle_eq : moveIdle head target c = { c with
    bay := { c.bay with
      acq := ⟨.follow, 0, 0, 0⟩
      counter := { c.bay.counter with qp := none, resolved := false }
      ctrl := { c.bay.ctrl with
        state := .acquire, loopHead := head, selHead := head
        switchWait := if head ≠ c.bay.ctrl.selHead then c.bay.profile.headSwitchWedges else c.bay.ctrl.switchWait
        targetFinal := some target, targetNow := none, prevErr := none, settle := 0
        frozen := false, watch := none } }
    records := c.records ++ headIfChanged c.bay.ctrl.selHead head } := by
  by_cases h : head = c.bay.ctrl.selHead
  · subst h
    simp only [moveIdle, headSelect_same _ c rfl, headIfChanged]
    simp [enterAcquire, Ctx.setCtrl, Ctx.setAcq, Ctx.setCounter, Counter.unresolve]
  · simp only [moveIdle, headSelect_eq c h, headIfChanged, if_neg h]
    simp [enterAcquire, Ctx.setCtrl, Ctx.setAcq, Ctx.setCounter, Counter.unresolve, h]

/-- A MOVE of the head that the loop follows, and is selected, changes the target (R48). -/
theorem moveFollow_same (hs : head = c.bay.ctrl.selHead) (hl : head = c.bay.ctrl.loopHead) :
    moveFollow head target c =
      c.setCtrl { c.bay.ctrl with targetFinal := some target, settle := 0 } :=
  setLoopHead_same _ hl hs

/-- A MOVE of another head changes the target and the loop head (R48). -/
theorem moveFollow_other (hs : head ≠ c.bay.ctrl.selHead) (hl : c.bay.ctrl.selHead = c.bay.ctrl.loopHead) :
    moveFollow head target c = { c with
      bay := { c.bay.onHead head with
        ctrl := { (c.bay.onHead head).ctrl with targetFinal := some target } }
      records := c.records ++ [.head head] } :=
  setLoopHead_eq (c.setCtrl _) hl (hl ▸ hs)

theorem moveAcquire_same (hs : head = c.bay.ctrl.selHead) : moveAcquire head target c =
    c.setCtrl { c.bay.ctrl with targetFinal := some target, settle := 0 } :=
  if_pos hs

theorem moveAcquire_other (hs : head ≠ c.bay.ctrl.selHead) :
    moveAcquire head target c = moveFollow head target c := if_neg hs
end

section
variable {c : Ctx} {head track : Nat} {offset : Int}

theorem moveBay_idle (hf : moveFits c.profile head track offset = true) (h : c.ctrl.state = .idle) :
    moveBay head track offset c = (moveIdle head (moveTarget track offset) c, .ok,
      stateByte (moveIdle head (moveTarget track offset) c)) := by
  simp only [moveBay, hf, h, if_true]

theorem moveBay_acquire (hf : moveFits c.profile head track offset = true) (h : c.ctrl.state = .acquire)
    (hi : c.bay.acq.intent = .follow) :
    moveBay head track offset c = (moveAcquire head (moveTarget track offset) c, .ok,
      stateByte (moveAcquire head (moveTarget track offset) c)) := by
  simp only [moveBay, hf, h, hi, if_true]

theorem moveBay_follow (hf : moveFits c.profile head track offset = true) (h : c.ctrl.state = .follow) :
    moveBay head track offset c = (moveFollow head (moveTarget track offset) c, .ok,
      stateByte (moveFollow head (moveTarget track offset) c)) := by
  simp only [moveBay, hf, h, if_true]

theorem moveBay_busy (hf : moveFits c.profile head track offset = true)
    (h : c.ctrl.state ∈ [.sweep, .held, .fault, .offline] ∨ (c.ctrl.state = .acquire ∧ c.bay.acq.intent = .sweep)) :
    moveBay head track offset c = (c, .busy, stateByte c) := by
  simp only [moveBay, hf, if_true]
  split <;> simp_all
end

/-- Settles O48, by the states in which MOVE acts. -/
theorem moveNamesTarget : Obligations.MoveNamesTarget := by
  intro s tag b head track offset x f target fits moved hh ht h1 h2 hs
  have he (u : State) : withFields (readMove f.body) (fun y => withBay y.1 (moveBay y.2.1 y.2.2.1 y.2.2.2)) u =
      onBayReply b (moveBay head track offset) u := by
    rw [readMove_moveBody b hh ht h1 h2]
    exact congrFun (withBay_byte b _) u
  have hfit : moveFits (s.ctx b).profile head track offset = true ↔ fits := moveFits_iff _ _ _ h1
  refine ⟨fun hf h => ?_, fun hf h hi hsel => ?_, fun hf h hsel hl => ?_, fun st code hf hst h hm hsl => ?_, fun hf h => ?_,
    fun hf => ?_⟩ <;> refine congrArg Host.Outcome.next ?_
  · refine bay_grants hs rfl (he _) (notes := []) ?_
    rw [moveBay_idle (hfit.2 hf) h, stateByte_eq, moveIdle_eq]
    rfl
  · refine bay_grants hs rfl (he _) (notes := []) ?_
    have hcode : [BitVec.ofNat 8 x.ctrl.state.code] = [2] := by rw [h]; rfl
    rw [moveBay_acquire (hfit.2 hf) h hi, stateByte_eq, moveAcquire_same _ _ _ hsel, ← hcode]
    rfl
  · refine bay_grants hs rfl (he _) (notes := []) ?_
    have hcode : [BitVec.ofNat 8 x.ctrl.state.code] = [3] := by rw [h]; rfl
    rw [moveBay_follow (hfit.2 hf) h, stateByte_eq, moveFollow_same _ _ _ hsel hl, ← hcode]
    rfl
  · refine bay_grants hs rfl (he _) (notes := []) ?_
    have hx : moveBay head track offset (s.ctx b) = (moveFollow head target (s.ctx b), .ok,
        stateByte (moveFollow head target (s.ctx b))) := by
      rcases h with ⟨rfl, -⟩ | ⟨rfl, hi, -⟩
      · exact moveBay_follow (hfit.2 hf) hst
      · rw [moveBay_acquire (hfit.2 hf) hst hi, moveAcquire_other _ _ _ hm]
        rfl
    have hcode : [BitVec.ofNat 8 x.ctrl.state.code] = [code] := by
      rcases h with ⟨rfl, rfl⟩ | ⟨rfl, -, rfl⟩ <;> rw [hst] <;> rfl
    rw [hx, stateByte_eq, moveFollow_other _ _ _ hm hsl, ← hcode]
    rfl
  · refine bay_answers hs rfl (he _) ?_
    rw [moveBay_busy (hfit.2 hf) h, stateByte_eq]
    rfl
  · refine bay_answers hs rfl (he _) ?_
    rw [moveBay, if_neg (fun h => hf (hfit.1 h)), stateByte_eq]
    rfl

/-! ### REF_LOG and COUNTERS (R105, R127) -/

theorem tempBytes_eq (t : Option Int) : tempBytes t = leBytes 2 (t.getD (-32768)) := by
  cases t <;> rfl

theorem flagByte_eq (v : Bool) : flagByte v = [if v = true then 1 else 0] := by
  cases v <;> rfl

theorem readBayOption_eq (v : Byte) {o : Nat} (h : o ≤ 255) :
    readBayOption [v, BitVec.ofNat 8 o] = some (v, o) := by
  have ho : (BitVec.ofNat 8 o).toNat = o := toNat_ofNat_byte (by omega)
  simp only [readBayOption, ho]

/-- The bay that a bay byte up to 3 names. -/
theorem exists_byte {v : Byte} (h : v.toNat ≤ 3) : ∃ b : BayIx, v = b.byte := by
  have hv : v = BitVec.ofNat 8 v.toNat := by simp
  generalize v.toNat = n at h hv
  match n, h with
  | 0, _ => exact ⟨.bay0, hv⟩
  | 1, _ => exact ⟨.bay1, hv⟩
  | 2, _ => exact ⟨.bay2, hv⟩
  | 3, _ => exact ⟨.bay3, hv⟩

theorem countersEffect_all {o : Nat} (h : o ≤ 255) (s : State) :
    countersEffect [0xFF, BitVec.ofNat 8 o] s = countersAll o s := by
  rw [countersEffect, readBayOption_eq _ h]
  rfl

theorem countersEffect_bay (b : BayIx) {o : Nat} (h : o ≤ 255) (s : State) :
    countersEffect [b.byte, BitVec.ofNat 8 o] s = countersOne b o s := by
  rw [countersEffect, readBayOption_eq _ h]
  cases b <;> rfl

theorem countersEffect_none {v : Byte} (h3 : 3 < v.toNat) (hv : v ≠ 0xFF) {o : Nat} (h : o ≤ 255) (s : State) :
    countersEffect [v, BitVec.ofNat 8 o] s = (s, .badBay, []) := by
  rw [countersEffect, readBayOption_eq _ h]
  simp only [withFields, if_neg hv, bayOfByte_none h3]

theorem countersEffect_snapshot {v : Byte} (hv : v.toNat ≤ 3 ∨ v = 0xFF) (s : State) :
    countersEffect [v, BitVec.ofNat 8 0] s = countersSnapshot s := by
  rcases hv with hv | rfl
  · obtain ⟨b, rfl⟩ := exists_byte hv
    exact countersEffect_bay b (by omega) s
  · exact countersEffect_all (by omega) s

theorem countersEffect_other {v : Byte} (hv : v.toNat ≤ 3 ∨ v = 0xFF) {o : Nat} (h3 : 3 ≤ o) (h : o ≤ 255) (s : State) :
    countersEffect [v, BitVec.ofNat 8 o] s = (s, .badArg, []) := by
  rcases hv with hv | rfl
  · obtain ⟨b, rfl⟩ := exists_byte hv
    rw [countersEffect_bay b h, countersOne, if_neg (by omega), if_neg (by omega), if_neg (by omega)]
  · rw [countersEffect_all h, countersAll, if_neg (by omega), if_neg (by omega)]

/-- A bay that offers and sends nothing. -/
theorem leaves_silent (s : State) (b : BayIx) (x : Bay) :
    s.leaves b x [] [] = { s with bays := s.bays.set b x } := by
  simp [State.leaves, commit, putBay]

/-- Settles O53: the bay's reply is read off, and each option of COUNTERS changes what it names. -/
theorem refLogAndCounters : Obligations.RefLogAndCounters := by
  refine ⟨fun s tag => ⟨?_, fun v hv hs => ?_, fun body hb hs => ?_⟩, ?_⟩
  · intro b x hs
    refine congrArg Host.Outcome.next (bay_answers hs rfl (congrFun (withBay_byte b refLog) _) ?_)
    simp only [refLog, flagByte_eq, tempBytes_eq]
    have hp : presenceByte [x.meas.dueCount, x.meas.dueTime, x.meas.dueTemp] =
        [BitVec.ofNat 8 (x.meas.dueCount.toNat + 2 * x.meas.dueTime.toNat + 4 * x.meas.dueTemp.toNat)] := by
      cases x.meas.dueCount <;> cases x.meas.dueTime <;> cases x.meas.dueTemp <;> rfl
    have hr : RefRecord.bytes = fun r => leBytes 2 r.seq ++ leBytes 2 r.value ++ leBytes 2 (r.temp.getD (-32768)) := by
      funext r
      rw [RefRecord.bytes, tempBytes_eq]
      rfl
    rw [hr]
    exact congrArg (fun p => (s.ctx b, Status.ok, _ ++ p ++ _)) hp
  · exact congrArg Host.Outcome.next (request_answers hs rfl (withBay_none hv _))
  · refine congrArg Host.Outcome.next (request_answers hs rfl ?_)
    have hn : readBay body = none := by
      unfold readBay
      split
      · exact absurd rfl hb
      · rfl
    rw [hn]
    rfl
  · intro s tag body f copied zeroed all
    refine ⟨fun v hv hs => ?_, fun b hs => ?_, fun hs => ?_, fun b hs => ?_, fun hs => ?_, fun v o hv h1 h2 hs => ?_,
      fun v hv hv' hs => ?_⟩ <;> refine congrArg Host.Outcome.next ?_
    · exact request_gives hs rfl (countersEffect_snapshot hv _)
    · exact bay_answers hs rfl (countersEffect_bay b (by omega) _) rfl
    · exact request_answers hs rfl (countersEffect_all (by omega) _)
    · rw [State.grants, leaves_silent]
      exact request_gives hs rfl (countersEffect_bay b (by omega) _)
    · exact request_gives hs rfl (countersEffect_all (by omega) _)
    · refine request_answers hs ?_ (countersEffect_other hv h1 h2 _)
      rw [countersOption, readBayOption_eq v h2]
      simp
      omega
    · exact request_answers hs rfl (countersEffect_none hv hv' (by omega) _)

end Sys2Proof.Machine

namespace Sys2Proof.Machine

/-! SUPPORT. The requests on the tables, the plan store, the self-check and the event unit: the bytes of their
bodies read back, and statements O54, O55 and O60. -/

/-! ### EVENT_ROUTE (R168, R169) -/

theorem readRoutes_bytes {pairs : List (Nat × Nat)} (h : ∀ q ∈ pairs, q.1 ≤ 255 ∧ q.2 ≤ 255) :
    readRoutes (pairs.flatMap fun p => [BitVec.ofNat 8 p.1, BitVec.ofNat 8 p.2]) = some pairs := by
  induction pairs with
  | nil => rfl
  | cons q l ih =>
    obtain ⟨h1, h2⟩ := h q List.mem_cons_self
    have e1 : (BitVec.ofNat 8 q.1).toNat = q.1 := toNat_ofNat_byte (by omega)
    have e2 : (BitVec.ofNat 8 q.2).toNat = q.2 := toNat_ofNat_byte (by omega)
    simp only [List.flatMap_cons, List.cons_append, List.nil_append, readRoutes,
      ih fun p hp => h p (List.mem_cons_of_mem _ hp), e1, e2]

theorem readRoute_routeBody (b : BayIx) {pairs : List (Nat × Nat)} (hl : pairs.length ≤ 255)
    (h : ∀ q ∈ pairs, q.1 ≤ 255 ∧ q.2 ≤ 255) : readRoute (routeBody b pairs) = some (b.byte, pairs) := by
  have e : (BitVec.ofNat 8 pairs.length).toNat = pairs.length := toNat_ofNat_byte (by omega)
  simp only [routeBody, readRoute, readRoutes_bytes h, e, if_true]

theorem routeInvalid_iff (q : Nat × Nat) : routeInvalid q = true ↔ ¬(q.1 ≤ 17 ∧ q.2 ≤ 2) := by
  have : (Disposition.ofCode q.2).isNone = true ↔ 2 < q.2 := by
    unfold Disposition.ofCode
    split_ifs <;> simp <;> omega
  simp only [routeInvalid, Bool.or_eq_true, decide_eq_true_eq, this]
  omega

theorem fixedKind_iff (k : Nat) : fixedKind k = true ↔ k = 10 ∨ k = 13 := by
  simp [fixedKind, EventKind.number]

theorem routeKept_iff (q : Nat × Nat) : routeKept q = true ↔ (q.1 = 10 ∨ q.1 = 13) ∧ q.2 ≠ 1 := by
  simp [routeKept, fixedKind_iff, Disposition.code]

@[simp] theorem length_routePair (ds : List Disposition) (q : Nat × Nat) : (routePair ds q).length = ds.length := by
  unfold routePair
  split <;> simp

@[simp] theorem length_routePairs (ds : List Disposition) (pairs : List (Nat × Nat)) :
    (pairs.foldl routePair ds).length = ds.length := by
  induction pairs generalizing ds with
  | nil => rfl
  | cons q l ih => rw [List.foldl_cons, ih, length_routePair]

/-- One pair gives its kind its disposition, unless the kind is fixed, and leaves the others (R169). -/
theorem routePair_get {ds : List Disposition} {q : Nat × Nat} (hq : q.2 ≤ 2) {k : Nat} (hk : k < ds.length) :
    (routePair ds q)[k]? = if q.1 = k then if k = 10 ∨ k = 13 then ds[k]? else Disposition.ofCode q.2 else ds[k]? := by
  have hsome : ∃ d, Disposition.ofCode q.2 = some d := by
    unfold Disposition.ofCode
    split_ifs <;> first | exact ⟨_, rfl⟩ | omega
  obtain ⟨d, hd⟩ := hsome
  unfold routePair
  by_cases hf : q.1 = 10 ∨ q.1 = 13
  · rw [if_pos ((fixedKind_iff _).2 hf)]
    split_ifs with h1 h2 <;> first | rfl | (subst h1; exact absurd hf h2)
  · rw [if_neg fun h => hf ((fixedKind_iff _).1 h), hd]
    by_cases h1 : q.1 = k
    · subst h1
      simp [hf, hk]
    · simp [h1]

/-- A list of pairs gives each kind the disposition of its last pair (R169). -/
theorem routePairs_get (ds : List Disposition) {pairs : List (Nat × Nat)} (hp : ∀ q ∈ pairs, q.2 ≤ 2) {k : Nat}
    (hk : k < ds.length) : (pairs.foldl routePair ds)[k]? =
      match (pairs.filter fun q => q.1 = k).getLast? with
      | some q => if k = 10 ∨ k = 13 then ds[k]? else Disposition.ofCode q.2
      | none => ds[k]? := by
  induction pairs using List.reverseRecOn with
  | nil => rfl
  | append_singleton l q ih =>
    rw [List.foldl_append, List.foldl_cons, List.foldl_nil, routePair_get (hp q (by simp)) (by simpa using hk),
      ih fun p hp' => hp p (by simp [hp']), List.filter_append]
    by_cases h1 : q.1 = k
    · simp only [h1, if_true, List.filter_cons, decide_true, List.filter_nil, List.getLast?_append,
        List.getLast?_singleton, Option.some_or]
      split_ifs with h
      · split <;> rfl
      · rfl
    · simp [h1]

/-- Settles O60: the pairs are read back, and the last pair of a kind stands. -/
theorem eventRouteApplies : Obligations.EventRouteApplies := by
  intro s tag b pairs x f good kept hl hp hs
  have he (u : State) : withFields (readRoute f.body) (fun y => withBay y.1 (eventRoute y.2)) u =
      onBayReply b (eventRoute pairs) u := by
    rw [readRoute_routeBody b hl hp]
    exact congrFun (withBay_byte b _) u
  have hgood : (18 < pairs.length ∨ pairs.any routeInvalid = true) ↔ ¬ good := by
    simp only [List.any_eq_true, routeInvalid_iff, good, not_and_or, not_forall, Nat.not_le, exists_prop]
  have hkept : pairs.any routeKept = true ↔ kept := by
    simp only [List.any_eq_true, routeKept_iff, kept]
  refine ⟨fun h => ?_, fun h hd => ?_⟩
  · refine congrArg Host.Outcome.next (bay_answers hs rfl (he _) ?_)
    rw [eventRoute, if_pos (hgood.2 h)]
  · refine ⟨pairs.foldl routePair x.unit.dispositions, if pairs.any routeKept then .adjusted else .ok, ?_, fun hk => ?_,
      fun hk => ?_, ?_, fun k hk => ?_⟩
    · refine congrArg Host.Outcome.next (bay_grants hs rfl (he _) (notes := []) ?_)
      rw [eventRoute, if_neg fun h' => hgood.1 h' h]
      simp only [byte1_eq, ← List.map_eq_flatMap]
      rfl
    · rw [if_pos (hkept.2 hk)]
    · rw [if_neg fun h' => hk (hkept.1 h')]
    · rw [length_routePairs, hd]
    · exact routePairs_get _ (fun q hq => (h.2 q hq).2) (hd ▸ hk)

/-! ### SELF_CHECK (R107, R108, R115) -/

@[simp] theorem length_genBits (n : Nat) (r : BitVec 17) : (genBits n r).1.length = n := by
  induction n generalizing r with
  | zero => rfl
  | succ n ih => simp [genBits, ih]

theorem getElem?_flipAt (n : Nat) (bits : List Bool) (k : Nat) :
    (flipAt n bits)[k]? = if k = n then bits[k]?.map (!·) else bits[k]? := by
  induction bits generalizing n k with
  | nil => cases n <;> simp [flipAt]
  | cons v l ih =>
    cases n <;> cases k <;> simp [flipAt, ih]

@[simp] theorem length_flipAt (n : Nat) (bits : List Bool) : (flipAt n bits).length = bits.length := by
  induction bits generalizing n with
  | nil => cases n <;> rfl
  | cons v l ih => cases n <;> simp [flipAt, ih]

/-- Bits cut into blocks of 256 are the bits (R107). -/
theorem flatten_blocksOf (n : Nat) (bits : List Bool) (h : bits.length = n * 256) : (blocksOf n bits).flatten = bits := by
  induction n generalizing bits with
  | zero => simpa [blocksOf] using (List.eq_nil_of_length_eq_zero (by omega)).symm
  | succ n ih =>
    rw [blocksOf, List.flatten_cons, ih _ (by simp [Config.blockBits]; omega), List.take_append_drop]

/-- Settles O54: the bits of a pass by place, and the two branches of its start. -/
theorem selfCheckFlipsOneBit : Obligations.SelfCheckFlipsOneBit := by
  refine ⟨?_, ?_⟩
  · intro s tag b x f hs
    refine congrArg Host.Outcome.next (bay_grants hs rfl (congrFun (withBay_byte b selfCheck) _) (notes := []) ?_)
    rw [selfCheck, flagByte_eq]
    rfl
  · intro c k n sent bits hn hk
    have hbits : passBits n c.bay.pattern.selfCheck = bits := by
      cases h : c.bay.pattern.selfCheck <;> simp only [bits, h] <;> rfl
    have hlen : bits.length = n * 256 := by
      rw [← hbits]
      unfold passBits
      split <;> simp [Config.blockBits]
    refine ⟨?_, ?_, fun h => ?_, fun h => ?_⟩
    · rw [← hbits]
      cases h : c.bay.pattern.selfCheck
      · simp [passBits, sent, Config.blockBits]
      · simp [passBits, sent, Config.blockBits, getElem?_flipAt]
    · unfold startPass
      split <;> rfl
    · have hx : startPass c = c.setPattern { c.pattern with
          gen := passRegister n, selfCheck := false, loopBuffer := blocksOf n (passBits n c.bay.pattern.selfCheck) } := by
        simp only [startPass, Ctx.profile_eq, h]
        rfl
      rw [hx, hbits]
      exact ⟨flatten_blocksOf n bits hlen, rfl⟩
    · have hx : startPass c = { c.setPattern { c.pattern with
          gen := passRegister n, selfCheck := false, write := some 0 } with
          records := c.records ++ writeRecords n 0 (blocksOf n (passBits n c.bay.pattern.selfCheck)) } := by
        simp only [startPass, Ctx.profile_eq, h]
        rfl
      rw [hx, hbits]
      exact ⟨rfl, rfl⟩

/-! ### ZONE_SET (R131) -/

theorem readZoneSet_define (b : BayIx) {zone track half step : Nat} (hz : zone ≤ 255) (ht : track < 4294967296)
    (hh : half ≤ 65535) (hs : step ≤ 65535) :
    readZoneSet (zoneDefineBody b zone track half step) = some (b.byte, zone, .define track half step) := by
  have h1 : leNat (leBytes 4 (track : Int)) = track := leNat_leBytes_of_lt (by omega)
  have h2 : leNat (leBytes 2 (half : Int)) = half := leNat_leBytes_of_lt (by omega)
  have h3 : leNat (leBytes 2 (step : Int)) = step := leNat_leBytes_of_lt (by omega)
  have h4 : (BitVec.ofNat 8 zone).toNat = zone := toNat_ofNat_byte (by omega)
  simp only [leBytes] at h1 h2 h3
  simp only [zoneDefineBody, readZoneSet, leBytes, List.cons_append, List.nil_append, h1, h2, h3, h4, if_true]

theorem readZoneSet_undefine (b : BayIx) {zone : Nat} (hz : zone ≤ 255) :
    readZoneSet [b.byte, BitVec.ofNat 8 zone, 1] = some (b.byte, zone, .undefine) := by
  have h : (BitVec.ofNat 8 zone).toNat = zone := toNat_ofNat_byte (by omega)
  simp [readZoneSet, Nat.mod_eq_of_lt (show zone < 256 by omega)]

/-- The clamps of a define (R131). -/
theorem zoneClamped_eq (track half step : Nat) : zoneClamped track half step =
    ⟨track, if 16 < min 16384 half / max 16 (min 4096 step) then 16 * max 16 (min 4096 step) else min 16384 half,
      max 16 (min 4096 step)⟩ := by
  have hd : (if step < 16 then 16 else if 4096 < step then 4096 else step) = max 16 (min 4096 step) := by
    split_ifs <;> omega
  have hh : (if 16384 < half then 16384 else half) = min 16384 half := by
    split_ifs <;> omega
  simp only [zoneClamped, hd, hh]

section
variable {c : Ctx} {zone track half step : Nat}

theorem zoneSet_badArg (h : 23 < zone ∨ 524287 < track) :
    zoneSet zone (.define track half step) c = (c, .badArg, []) := by
  unfold zoneSet
  split
  · rfl
  · rename_i hz
    simp only [Config.zones] at hz
    exact if_pos (show Config.trackMax < track from h.resolve_left (by omega))

theorem zoneSet_undefine_badArg (h : 23 < zone) : zoneSet zone .undefine c = (c, .badArg, []) :=
  if_pos (show Config.zones ≤ zone from h)

theorem zoneSet_define_fits (hz : zone ≤ 23) (ht : track ≤ 524287) :
    zoneSet zone (.define track half step) c = zoneDefine zone track half step c := by
  rw [zoneSet, if_neg (show ¬ Config.zones ≤ zone by simp only [Config.zones]; omega)]
  exact if_neg (show ¬ Config.trackMax < track by simp only [Config.trackMax]; omega)

theorem zoneSet_undefine_fits (hz : zone ≤ 23) : zoneSet zone .undefine c = zoneUndefine zone c :=
  if_neg (show ¬ Config.zones ≤ zone by simp only [Config.zones]; omega)
end

/-! ### Step lists (R133, R144) -/

theorem readSteps_bytes {raw : List RawStep} (h : ∀ r ∈ raw, r.kind ≤ 255 ∧ r.head ≤ 255 ∧ r.zone ≤ 255) :
    readSteps (raw.flatMap RawStep.bytes) = some raw := by
  induction raw with
  | nil => rfl
  | cons r l ih =>
    obtain ⟨h1, h2, h3⟩ := h r List.mem_cons_self
    have e1 : (BitVec.ofNat 8 r.kind).toNat = r.kind := toNat_ofNat_byte (by omega)
    have e2 : (BitVec.ofNat 8 r.head).toNat = r.head := toNat_ofNat_byte (by omega)
    have e3 : (BitVec.ofNat 8 r.zone).toNat = r.zone := toNat_ofNat_byte (by omega)
    simp only [List.flatMap_cons, RawStep.bytes, List.cons_append, List.nil_append, readSteps,
      ih fun p hp => h p (List.mem_cons_of_mem _ hp), e1, e2, e3]

/-- The raw records of a list of step records. -/
def rawSteps (l : List StepRec) : List RawStep := l.map fun r => ⟨r.kind.code, r.head, r.zone⟩

theorem readStepList_body (b : BayIx) {o : Nat} (ho : o ≤ 255) {l : List StepRec} (hl : l.length ≤ 255)
    (h : ∀ r ∈ l, r.head ≤ 255 ∧ r.zone ≤ 255) :
    readStepList (stepListBody b o (rawSteps l)) = some (b.byte, o, rawSteps l) := by
  have e1 : (BitVec.ofNat 8 o).toNat = o := toNat_ofNat_byte (by omega)
  have e2 : (BitVec.ofNat 8 l.length).toNat = l.length := toNat_ofNat_byte (by omega)
  have hlen : (rawSteps l).length = l.length := List.length_map _
  have hraw : ∀ r ∈ rawSteps l, r.kind ≤ 255 ∧ r.head ≤ 255 ∧ r.zone ≤ 255 := by
    intro r hr
    obtain ⟨a, ha, rfl⟩ := List.mem_map.1 hr
    exact ⟨by cases a.kind <;> simp [StepKind.code], h a ha⟩
  simp only [stepListBody, readStepList, readSteps_bytes hraw, hlen, e1, e2, if_true]

theorem stepOf_eq (r : StepRec) : stepOf ⟨r.kind.code, r.head, r.zone⟩ =
    if r.head ≤ 15 ∧ r.zone ≤ 23 then some r else none := by
  obtain ⟨k, h, z⟩ := r
  have hk : StepKind.ofCode k.code = some k := by cases k <;> rfl
  simp only [stepOf, hk, Config.heads, Config.zones, Nat.lt_succ_iff]

/-- A list of step records passes when every record is in range (R133, R144). -/
theorem stepsOf_good {l : List StepRec} (h : ∀ r ∈ l, r.head ≤ 15 ∧ r.zone ≤ 23) :
    stepsOf (rawSteps l) = some l := by
  induction l with
  | nil => rfl
  | cons r l ih =>
    have h1 : stepOf ⟨r.kind.code, r.head, r.zone⟩ = some r := by
      rw [stepOf_eq, if_pos (h r List.mem_cons_self)]
    have h2 := ih fun p hp => h p (List.mem_cons_of_mem _ hp)
    simp only [rawSteps] at h2
    simp only [rawSteps, List.map_cons, stepsOf, h1, h2]

theorem stepsOf_bad {l : List StepRec} (h : ¬ ∀ r ∈ l, r.head ≤ 15 ∧ r.zone ≤ 23) :
    stepsOf (rawSteps l) = none := by
  induction l with
  | nil => simp at h
  | cons r l ih =>
    simp only [rawSteps, List.map_cons, stepsOf, stepOf_eq]
    by_cases h1 : r.head ≤ 15 ∧ r.zone ≤ 23
    · have h2 : stepsOf (rawSteps l) = none := ih fun h' => h (by simpa [h1] using h')
      simp only [rawSteps] at h2
      simp only [h2, if_pos h1]
    · simp only [if_neg h1]

section
variable {c : Ctx} {l : List StepRec} {o : Nat}

theorem planLoad_badArg (h : ¬ ∀ r ∈ l, r.head ≤ 15 ∧ r.zone ≤ 23) : planLoad o (rawSteps l) c = (c, .badArg, []) := by
  simp only [planLoad, stepsOf_bad h]

theorem planLoad_busy (h : ∀ r ∈ l, r.head ≤ 15 ∧ r.zone ≤ 23) (ha : c.sweep.active = true) :
    planLoad 0 (rawSteps l) c = (c, .busy, []) := by
  simp only [planLoad, stepsOf_good h, ha]
  rfl

/-- The store that a PLAN_LOAD gives (R133). -/
def storeAfter (o : Nat) (l : List StepRec) (c : Ctx) : List StepRec := if o = 0 then l else c.bay.store ++ l

/-- A PLAN_LOAD past its checks of option and sweep. -/
theorem planLoad_eq (h : ∀ r ∈ l, r.head ≤ 15 ∧ r.zone ≤ 23) (h1 : o ≤ 1) (ha : o = 0 → c.sweep.active = false) :
    planLoad o (rawSteps l) c = if 128 < (storeAfter o l c).length then (c, .full, [])
      else (c.setStore (storeAfter o l c), .ok, [BitVec.ofNat 8 (storeAfter o l c).length]) := by
  have hn : ¬(o = 0 ∧ c.sweep.active = true) := fun h => Bool.eq_false_iff.1 (ha h.1) h.2
  simp only [planLoad, stepsOf_good h, if_neg (show ¬ 1 < o by omega), if_neg hn, ← byte1_eq]
  rfl

theorem probeBay_badArg {id : Nat} (h : (¬ ∀ r ∈ l, r.head ≤ 15 ∧ r.zone ≤ 23) ∨ l = [] ∨ 8 < l.length) :
    probeBay id (rawSteps l) c = (c, .badArg, []) := by
  by_cases hg : ∀ r ∈ l, r.head ≤ 15 ∧ r.zone ≤ 23
  · simp only [probeBay, stepsOf_good hg]
    exact if_pos (by simpa [Config.probeSteps] using h.resolve_left (not_not.2 hg))
  · simp only [probeBay, stepsOf_bad hg]

theorem probeBay_eq {id : Nat} (h : ∀ r ∈ l, r.head ≤ 15 ∧ r.zone ≤ 23) (hn : l ≠ []) (h8 : l.length ≤ 8) :
    probeBay id (rawSteps l) c = if c.sweep.active = true ∧ c.sweep.probe = none then
      (c.setSweep { c.sweep with probe := some (id, l) }, .ok, []) else (c, .busy, []) := by
  have hfit : ¬(l.isEmpty = true ∨ Config.probeSteps < l.length) := by
    simp only [List.isEmpty_iff, Config.probeSteps, hn, false_or]
    omega
  simp only [probeBay, stepsOf_good h, if_neg hfit, Option.isNone_iff_eq_none]
end

/-- Settles O55: the bodies are read back, and each request falls into its checks' branches. -/
theorem zonesAndStepsAreStored : Obligations.ZonesAndStepsAreStored := by
  refine ⟨?_, ?_⟩
  · intro s tag b zone track half step x f g d top h hz ht hh hst
    have hf : readZoneSet f.body = some (b.byte, zone, .define track half step) := readZoneSet_define b hz ht hh hst
    have hg : readZoneSet g.body = some (b.byte, zone, .undefine) := readZoneSet_undefine b hz
    have hef (u : State) : zoneEffect f.body u = onBayReply b (zoneSet zone (.define track half step)) u := by
      rw [zoneEffect, hf]
      exact congrFun (withBay_byte b _) u
    have heg (u : State) : zoneEffect g.body u = onBayReply b (zoneSet zone .undefine) u := by
      rw [zoneEffect, hg]
      exact congrFun (withBay_byte b _) u
    have hof : (!asksUndefine f.body) = true := by
      simp [asksUndefine, zoneOption, hf]
    have hog : (!asksDefine g.body) = true := by
      simp [asksDefine, zoneOption, hg]
    refine ⟨fun hs => ⟨fun hbad => ?_, fun h1 h2 ha => ?_, fun h1 h2 ha => ?_⟩,
      fun hs => ⟨fun hbad => ?_, fun h1 ha => ?_, fun h1 ha => ?_⟩, fun ⟨_, hw⟩ r a => ?_⟩
    · exact congrArg Host.Outcome.next (bay_answers hs hof (hef _) (zoneSet_badArg hbad))
    · refine congrArg Host.Outcome.next (bay_answers hs hof (hef _) ?_)
      rw [zoneSet_define_fits h1 h2, zoneDefine, if_pos (show (s.ctx b).sweep.active = true from ha)]
    · refine congrArg Host.Outcome.next (bay_grants hs hof (hef _) (notes := []) ?_)
      have hn : ¬ (s.ctx b).sweep.active = true := Bool.eq_false_iff.1 ha
      rw [zoneSet_define_fits h1 h2, zoneDefine, if_neg hn]
      simp only [zoneClamped_eq, zoneReply, byte1_eq zone, Zone.mk.injEq, true_and]
      rfl
    · exact congrArg Host.Outcome.next (bay_answers hs hog (heg _) (zoneSet_undefine_badArg hbad))
    · refine congrArg Host.Outcome.next (bay_answers hs hog (heg _) ?_)
      rw [zoneSet_undefine_fits h1, zoneUndefine, if_pos (show (s.ctx b).sweep.active = true from ha)]
    · refine congrArg Host.Outcome.next (bay_grants hs hog (heg _) (notes := []) ?_)
      have hn : ¬ (s.ctx b).sweep.active = true := Bool.eq_false_iff.1 ha
      rw [zoneSet_undefine_fits h1, zoneUndefine, if_neg hn, zoneReply, byte1_eq]
      rfl
    · rw [zoneGet, zonePut, Table.get_put none _ _ _ hw]
      rfl
  · intro s tag b id l x raw f g p good hl hr hid
    have hread (o : Nat) (ho : o ≤ 255) : readStepList (stepListBody b o raw) = some (b.byte, o, raw) :=
      readStepList_body b ho hl hr
    have hload (o : Nat) (ho : o ≤ 255) (u : State) : loadEffect (stepListBody b o raw) u = onBayReply b (planLoad o raw) u := by
      rw [loadEffect, hread o ho]
      exact congrFun (withBay_byte b _) u
    have hprobe (u : State) : withFields (readStepList p.body) (fun y => withBay y.1 (probeBay y.2.1 y.2.2)) u =
        onBayReply b (probeBay id raw) u := by
      rw [hread id hid]
      exact congrFun (withBay_byte b _) u
    have hof : (loadOption f.body != some 1) = true := by
      simp [loadOption, f, hread]
    have hog : (loadOption g.body != some 0) = true := by
      simp [loadOption, g, hread]
    have hreplace (h : good) (ha : x.sweep.active = false) := planLoad_eq (c := s.ctx b) h (o := 0) (by omega) fun _ => ha
    have happend (h : good) := planLoad_eq (c := s.ctx b) h (o := 1) (by omega) fun h => by omega
    have hprobed (h : good) (hn : l ≠ []) (h8 : l.length ≤ 8) := probeBay_eq (c := s.ctx b) (id := id) h hn h8
    refine ⟨fun hs => ⟨fun hbad => ?_, fun h ha => ?_, fun h ha hfull => ?_, fun h ha hfit => ?_⟩,
      fun hs => ⟨fun hbad => ?_, fun h hfull => ?_, fun h hfit => ?_⟩,
      fun hs => ⟨fun hbad => ?_, fun h hn h8 hb => ?_, fun h hn h8 ha hp => ?_⟩⟩
    · exact congrArg Host.Outcome.next (bay_answers hs hof (hload 0 (by omega) _) (planLoad_badArg hbad))
    · exact congrArg Host.Outcome.next (bay_answers hs hof (hload 0 (by omega) _) (planLoad_busy h ha))
    · refine congrArg Host.Outcome.next (bay_answers hs hof (hload 0 (by omega) _) ?_)
      exact (hreplace h ha).trans (if_pos hfull)
    · refine congrArg Host.Outcome.next (bay_grants hs hof (hload 0 (by omega) _) (notes := []) ?_)
      exact (hreplace h ha).trans (if_neg (Nat.not_lt.2 hfit))
    · exact congrArg Host.Outcome.next (bay_answers hs hog (hload 1 (by omega) _) (planLoad_badArg hbad))
    · refine congrArg Host.Outcome.next (bay_answers hs hog (hload 1 (by omega) _) ?_)
      exact (happend h).trans (if_pos (by simpa [storeAfter] using hfull))
    · refine congrArg Host.Outcome.next (bay_grants hs hog (hload 1 (by omega) _) (notes := []) ?_)
      refine (happend h).trans ((if_neg (by simpa [storeAfter] using hfit)).trans ?_)
      simp only [storeAfter, if_neg one_ne_zero, List.length_append]
      rfl
    · exact congrArg Host.Outcome.next (bay_answers hs rfl (hprobe _) (probeBay_badArg hbad))
    · refine congrArg Host.Outcome.next (bay_answers hs rfl (hprobe _) ?_)
      refine (hprobed h hn h8).trans (if_neg fun ⟨h1, h2⟩ => ?_)
      rcases hb with hb | hb
      · exact Bool.eq_false_iff.1 hb h1
      · exact hb h2
    · refine congrArg Host.Outcome.next (bay_grants hs rfl (hprobe _) (notes := []) ?_)
      exact (hprobed h hn h8).trans (if_pos ⟨ha, hp⟩)

end Sys2Proof.Machine

namespace Sys2Proof.Machine

/-! SUPPORT. The requests on the Head Map (R83 to R85): which entries fit, what a range names, and statement
O52. -/

/-! ### MAP_READ (R83) -/

theorem readMapRead_eq (b : BayIx) {head z0 z1 : Nat} (hh : head ≤ 255) (h0 : z0 ≤ 255) (h1 : z1 ≤ 255) :
    readMapRead [b.byte, BitVec.ofNat 8 head, BitVec.ofNat 8 z0, BitVec.ofNat 8 z1] = some (b.byte, head, z0, z1) := by
  have e1 : (BitVec.ofNat 8 head).toNat = head := toNat_ofNat_byte (by omega)
  have e2 : (BitVec.ofNat 8 z0).toNat = z0 := toNat_ofNat_byte (by omega)
  have e3 : (BitVec.ofNat 8 z1).toNat = z1 := toNat_ofNat_byte (by omega)
  simp only [readMapRead, e1, e2, e3]

/-- The entries that fit are a first part of the list, and the next one does not fit (R83). -/
theorem fitEntries_eq_take (room : Nat) (l : List (List Byte)) : ∃ n, n ≤ l.length ∧ fitEntries room l = l.take n ∧
    (l.take n).flatten.length ≤ room ∧ (n < l.length → room < (l.take (n + 1)).flatten.length) := by
  induction l generalizing room with
  | nil => exact ⟨0, le_rfl, rfl, Nat.zero_le _, fun h => absurd h (lt_irrefl _)⟩
  | cons e l ih =>
    by_cases h : e.length ≤ room
    · obtain ⟨n, hn, hf, hl, hnext⟩ := ih (room - e.length)
      refine ⟨n + 1, by simpa using hn, by rw [fitEntries, if_pos h, hf, List.take_succ_cons], ?_, fun hlt => ?_⟩
      · simp only [List.take_succ_cons, List.flatten_cons, List.length_append]
        omega
      · have := hnext (by simpa using hlt)
        simp only [List.take_succ_cons, List.flatten_cons, List.length_append] at this ⊢
        omega
    · refine ⟨0, Nat.zero_le _, by rw [fitEntries, if_neg h, List.take_zero], Nat.zero_le _, fun _ => ?_⟩
      simp only [List.take_succ_cons, List.take_zero, List.flatten_cons, List.flatten_nil, List.append_nil]
      omega

/-! ### Ranges (R84, R85) -/

theorem readMapAccept_eq (b : BayIx) {r : MapRange} (h0 : r.head0 ≤ 255) (h1 : r.head1 ≤ 255) (z0 : r.zone0 ≤ 255)
    (z1 : r.zone1 ≤ 255) : readMapAccept (rangeBody b r) = some (b.byte, r) := by
  have e0 : (BitVec.ofNat 8 r.head0).toNat = r.head0 := toNat_ofNat_byte (by omega)
  have e1 : (BitVec.ofNat 8 r.head1).toNat = r.head1 := toNat_ofNat_byte (by omega)
  have e2 : (BitVec.ofNat 8 r.zone0).toNat = r.zone0 := toNat_ofNat_byte (by omega)
  have e3 : (BitVec.ofNat 8 r.zone1).toNat = r.zone1 := toNat_ofNat_byte (by omega)
  simp only [rangeBody, readMapAccept, e0, e1, e2, e3]

theorem readMapClear_eq (b : BayIx) {r : MapRange} {o : Nat} (h0 : r.head0 ≤ 255) (h1 : r.head1 ≤ 255)
    (z0 : r.zone0 ≤ 255) (z1 : r.zone1 ≤ 255) (ho : o ≤ 255) :
    readMapClear (rangeBody b r ++ [BitVec.ofNat 8 o]) = some (b.byte, r, o) := by
  have e0 : (BitVec.ofNat 8 r.head0).toNat = r.head0 := toNat_ofNat_byte (by omega)
  have e1 : (BitVec.ofNat 8 r.head1).toNat = r.head1 := toNat_ofNat_byte (by omega)
  have e2 : (BitVec.ofNat 8 r.zone0).toNat = r.zone0 := toNat_ofNat_byte (by omega)
  have e3 : (BitVec.ofNat 8 r.zone1).toNat = r.zone1 := toNat_ofNat_byte (by omega)
  have e4 : (BitVec.ofNat 8 o).toNat = o := toNat_ofNat_byte (by omega)
  simp only [rangeBody, List.cons_append, List.nil_append, readMapClear, e0, e1, e2, e3, e4]

theorem mem_span (a z k : Nat) : k ∈ span a z ↔ a ≤ k ∧ k ≤ z := by
  simp only [span, List.mem_map, List.mem_range]
  constructor
  · rintro ⟨n, hn, rfl⟩
    omega
  · intro ⟨h1, h2⟩
    exact ⟨k - a, by omega, by omega⟩

@[simp] theorem length_span (a z : Nat) : (span a z).length = z + 1 - a := by simp [span]

theorem mem_rangeNamed (r : MapRange) (h z : Nat) : (h, z) ∈ rangeNamed r ↔
    r.head0 ≤ h ∧ h ≤ r.head1 ∧ r.zone0 ≤ z ∧ z ≤ r.zone1 := by
  simp [rangeNamed, mem_span, and_assoc]

theorem length_rangeNamed (r : MapRange) :
    (rangeNamed r).length = (r.head1 + 1 - r.head0) * (r.zone1 + 1 - r.zone0) := by
  simp [rangeNamed, List.length_flatMap]

theorem rangeFits_iff (r : MapRange) : rangeFits r = true ↔
    r.head0 ≤ r.head1 ∧ r.head1 ≤ 15 ∧ r.zone0 ≤ r.zone1 ∧ r.zone1 ≤ 23 := by
  simp only [rangeFits, Bool.and_eq_true, decide_eq_true_eq, Config.heads, Config.zones, Nat.lt_succ_iff, and_assoc]

/-- A change made to each named entry, once or more often the same, is made to the named entries alone. -/
theorem mapGet_mapNamed {f : Entry → Entry} (hf : ∀ e, f (f e) = f e) {named : List (Nat × Nat)}
    (hn : ∀ hz ∈ named, hz.2 < 24) {m : Table Entry} (hm : Table.wf Entry.empty m = true) (h : Nat) {z : Nat}
    (hz : z < 24) : mapGet (mapNamed f named m) h z = if (h, z) ∈ named then f (mapGet m h z) else mapGet m h z := by
  induction named generalizing m with
  | nil => rfl
  | cons a l ih =>
    have ha : a.2 < 24 := hn a List.mem_cons_self
    rw [mapNamed, List.foldl_cons, ← mapNamed, ih (fun p hp => hn p (List.mem_cons_of_mem _ hp)) (mapPut_wf _ _ _ hm),
      mapGet_mapPut _ _ _ _ _ hm ha hz]
    by_cases h1 : h = a.1 ∧ z = a.2
    · obtain ⟨rfl, rfl⟩ := h1
      simp [hf]
    · have h2 : (h, z) ≠ a := fun h => h1 (by simp [← h])
      simp [h1, h2]

theorem Entry.accept_accept (e : Entry) : e.accept.accept = e.accept := by
  by_cases h : e.provisional = true
  · simp [Entry.accept, h]
  · have h' : ({ e with accepted := true } : Entry).provisional ≠ true := h
    simp only [Entry.accept, if_neg h, if_neg h']

theorem Entry.clear_clear (o : Nat) (e : Entry) : (e.clear o).clear o = e.clear o := by
  unfold Entry.clear
  split <;> rfl

theorem clearEffect_eq (b : BayIx) {r : MapRange} {o : Nat} (h0 : r.head0 ≤ 255) (h1 : r.head1 ≤ 255)
    (z0 : r.zone0 ≤ 255) (z1 : r.zone1 ≤ 255) (ho : o ≤ 255) (s : State) :
    clearEffect (rangeBody b r ++ [BitVec.ofNat 8 o]) s = onBayReply b (mapClear r o) s := by
  rw [clearEffect, readMapClear_eq b h0 h1 z0 z1 ho]
  exact congrFun (withBay_byte b _) s

/-- Settles O52: which entries fit, and what each request makes of a named entry. -/
theorem mapIsReadMarkedAndCleared : Obligations.MapIsReadMarkedAndCleared := by
  refine ⟨?_, ?_, ?_⟩
  · intro s tag b head z0 z1 body f entries hh h0 h1 hs
    have he (u : State) : withFields (readMapRead body) (fun y => withBay y.1 (mapRead y.2.1 y.2.2.1 y.2.2.2)) u =
        onBayReply b (mapRead head z0 z1) u := by
      rw [readMapRead_eq b hh h0 h1]
      exact congrFun (withBay_byte b _) u
    have hspan : ((span z0 z1).map fun z => entryBytes z (mapGet (s.bays.get b).map head z)) = entries :=
      List.map_map
    refine ⟨fun hbad => ?_, fun g1 g2 g3 => ?_⟩
    · refine congrArg Host.Outcome.next (bay_answers hs rfl (he _) ?_)
      exact if_pos hbad
    · obtain ⟨n, hn, hfit, hroom, hnext⟩ := fitEntries_eq_take 1015 entries
      refine ⟨n, hn, congrArg Host.Outcome.next (bay_answers hs rfl (he _) ?_), hroom, hnext⟩
      have hgood : ¬(Config.heads ≤ head ∨ Config.zones ≤ z0 ∨ Config.zones ≤ z1 ∨ z1 < z0) := by
        simp only [Config.heads, Config.zones]
        omega
      have hfit' : fitEntries mapReadRoom ((span z0 z1).map fun z => entryBytes z (mapGet (s.ctx b).bay.map head z)) =
          entries.take n := (congrArg (fitEntries 1015) hspan).trans hfit
      rw [mapRead, if_neg hgood]
      simp only [hfit', byte1_eq, List.length_take, Nat.min_eq_left hn]
      rfl
  · intro s tag b r x f fits h0 h1 z0 z1 hs
    have he (u : State) : withFields (readMapAccept f.body) (fun y => withBay y.1 (mapAccept y.2)) u =
        onBayReply b (mapAccept r) u := by
      rw [readMapAccept_eq b h0 h1 z0 z1]
      exact congrFun (withBay_byte b _) u
    refine ⟨fun hbad => ?_, fun hfit hw => ?_⟩
    · refine congrArg Host.Outcome.next (bay_answers hs rfl (he _) ?_)
      exact if_neg fun h => hbad ((rangeFits_iff r).1 h)
    · refine ⟨mapNamed Entry.accept (rangeNamed r) x.map, _,
        congrArg Host.Outcome.next (bay_grants hs rfl (he _) (notes := []) ?_), rfl, fun h z hh hz => ?_⟩
      · have hle : (rangeNamed r).countP (fun hz => (mapGet (mapNamed Entry.accept (rangeNamed r) x.map) hz.1 hz.2).accepted) ≤
            (rangeNamed r).length := List.countP_le_length
        rw [← length_rangeNamed, Int.ofNat_sub hle, mapAccept, if_pos ((rangeFits_iff r).2 hfit)]
        rfl
      · have hn : ∀ hz ∈ rangeNamed r, hz.2 < 24 := fun p hp => by
          have := (mem_rangeNamed r p.1 p.2).1 hp
          omega
        rw [mapGet_mapNamed Entry.accept_accept hn hw.1 h hz]
        simp only [mem_rangeNamed]
        by_cases hin : r.head0 ≤ h ∧ h ≤ r.head1 ∧ r.zone0 ≤ z ∧ z ≤ r.zone1
        · cases hp : (mapGet x.map h z).provisional <;> simp [Entry.accept, hin, hp]
        · simp [hin]
  · intro s tag b r x body f fits h0 h1 z0 z1
    have he (o : Nat) (ho : o ≤ 255) (u : State) : clearEffect (body o) u = onBayReply b (mapClear r o) u :=
      clearEffect_eq b h0 h1 z0 z1 ho u
    have hoption (o : Nat) (ho : o ≤ 255) : clearOption (body o) = some o := by
      rw [clearOption, readMapClear_eq b h0 h1 z0 z1 ho]
      rfl
    refine ⟨fun o h2 ho hs => ?_, fun i o hi hs => ?_⟩
    · refine congrArg Host.Outcome.next (bay_answers hs ?_ (he o ho _) ?_)
      · rw [hoption o ho]
        simp
        omega
      · exact if_neg fun h => absurd h.2 (by omega)
    · have ho : o ≤ 1 := by
        rcases hi with ⟨-, rfl⟩ | ⟨-, rfl⟩ <;> omega
      have hexec : exec i s = .next (request 0x22 tag (body o) true (clearEffect (body o)) s) := by
        rcases hi with ⟨rfl, rfl⟩ | ⟨rfl, rfl⟩
        · exact congrArg (fun w => Host.Outcome.next (request 0x22 tag (body 0) w (clearEffect (body 0)) s))
            (by rw [hoption 0 (by omega)]; rfl)
        · exact congrArg (fun w => Host.Outcome.next (request 0x22 tag (body 1) w (clearEffect (body 1)) s))
            (by rw [hoption 1 (by omega)]; rfl)
      rw [hexec]
      refine ⟨fun hbad => ?_, fun hfit ha => ?_, fun hfit ha hw => ?_⟩
      · refine congrArg Host.Outcome.next (bay_answers hs rfl (he o (by omega) _) ?_)
        exact if_neg fun h => hbad ((rangeFits_iff r).1 h.1)
      · refine congrArg Host.Outcome.next (bay_answers hs rfl (he o (by omega) _) ?_)
        rw [mapClear, if_pos ⟨(rangeFits_iff r).2 hfit, ho⟩]
        exact if_pos ha
      · refine ⟨mapNamed (Entry.clear o) (rangeNamed r) x.map,
          congrArg Host.Outcome.next (bay_grants hs rfl (he o (by omega) _) (notes := []) ?_), fun h z hh hz => ?_⟩
        · rw [← length_rangeNamed, mapClear, if_pos ⟨(rangeFits_iff r).2 hfit, ho⟩]
          exact if_neg (Bool.eq_false_iff.1 ha)
        · have hn : ∀ hz ∈ rangeNamed r, hz.2 < 24 := fun p hp => by
            have := (mem_rangeNamed r p.1 p.2).1 hp
            omega
          rw [mapGet_mapNamed (Entry.clear_clear o) hn hw.1 h hz]
          simp only [mem_rangeNamed]
          rfl

end Sys2Proof.Machine

namespace Sys2Proof.Machine

/-! SUPPORT. The ends of a sweep and the first steps of the boundary on the whole bay at work (R53, R137, R138,
R149), and statements O47, O56, O57 and O58. -/

/-! ### Heads and the end of a sweep -/

section
variable (c : Ctx)

/-- All that naming a loop head does (R55, R56). -/
theorem setLoopHead_ctx (h : Nat) : setLoopHead h c = { c with
    bay := { c.bay with
      acq := if c.bay.ctrl.selHead = h then c.bay.acq else { c.bay.acq with run := 0, loss := 0 }
      counter := if c.bay.ctrl.selHead = h then c.bay.counter
        else { c.bay.counter with qp := none, resolved := false }
      ctrl := { c.bay.ctrl with
        loopHead := h, selHead := h
        switchWait := if c.bay.ctrl.selHead = h then c.bay.ctrl.switchWait else c.bay.profile.headSwitchWedges
        settle := if c.bay.ctrl.selHead = h ∧ c.bay.ctrl.loopHead = h then c.bay.ctrl.settle else 0
        targetNow := if c.bay.ctrl.loopHead = h then c.bay.ctrl.targetNow else none
        prevErr := if c.bay.ctrl.loopHead = h then c.bay.ctrl.prevErr else none } }
    records := c.records ++ headIfChanged c.bay.ctrl.selHead h } := by
  by_cases hl : c.bay.ctrl.loopHead = h <;> by_cases hs : c.bay.ctrl.selHead = h
  · rw [setLoopHead_same c hl.symm hs.symm]
    obtain ⟨_, ⟨_, _, _, _, ⟨_, _, _, _, _, _, _, _, _, _, _⟩, _, _, _, _, _, _, _, _⟩, _, _, _⟩ := c
    simp only at hl hs
    subst hl hs
    simp [headIfChanged]
  · rw [setLoopHead, if_pos (show h = c.ctrl.loopHead from hl.symm), headSelect_eq c (Ne.symm hs)]
    simp [hl, hs, headIfChanged, Ne.symm hs]
  · rw [setLoopHead, if_neg (show h ≠ c.ctrl.loopHead from Ne.symm hl)]
    refine (headSelect_same _ _ ?_).trans ?_
    · exact hs.symm
    · simp [hl, hs, headIfChanged, Ctx.setCtrl]
  · rw [setLoopHead, if_neg (show h ≠ c.ctrl.loopHead from Ne.symm hl)]
    refine (headSelect_eq _ ?_).trans ?_
    · exact Ne.symm hs
    · simp [hl, hs, headIfChanged, Ctx.setCtrl, Ne.symm hs]

/-- All that restoring the reference head does (R53). -/
theorem restoreRef_eq : restoreRef c = { c with
    bay := { c.bay with
      acq := if c.bay.ctrl.selHead = c.bay.profile.refHead then c.bay.acq
        else { c.bay.acq with run := 0, loss := 0 }
      counter := if c.bay.ctrl.selHead = c.bay.profile.refHead then c.bay.counter
        else { c.bay.counter with qp := none, resolved := false }
      ctrl := c.bay.ctrl.restored c.bay.profile }
    records := c.records ++ headIfChanged c.bay.ctrl.selHead c.bay.profile.refHead } := by
  rw [restoreRef, setLoopHead_ctx]
  rfl

/-- All that steps 1 to 5 of a sweep end other than COMPLETE do (R149). -/
theorem endCore_eq {o : SweepOutcome} (h : o ≠ .complete) : endCore o c = { c with
    bay := c.bay.sweepEnded o
    frames := c.frames ++ c.bay.doneFrames c.id o } := by
  have hid : (endCore o c).id = c.id := id_of_kept (endCore_kept c o)
  have hrec : (endCore o c).records = c.records := by
    simp [endCore, h, dropWork, closeWindow, endWrite, closeCapture]
  have hnote : (endCore o c).notes = c.notes := by
    simp [endCore, h, dropWork, closeWindow, endWrite, closeCapture]
  rw [← endCore_bay h c, ← endCore_frames h c, ← hid, ← hrec, ← hnote]

/-- The bay once the bay controller has restored the reference head, which was selected, at a sweep end other
than COMPLETE. -/
theorem restoreRef_endCore_same {o : SweepOutcome} (h : o ≠ .complete)
    (hs : c.bay.ctrl.selHead = c.bay.profile.refHead) : restoreRef (endCore o c) = { c with
    bay := { c.bay.sweepEnded o with ctrl := c.bay.ctrl.restored c.bay.profile }
    frames := c.frames ++ c.bay.doneFrames c.id o
    records := c.records ++ headIfChanged c.bay.ctrl.selHead c.bay.profile.refHead } := by
  have hs' : (endCore o c).bay.ctrl.selHead = (endCore o c).bay.profile.refHead := by rw [endCore_eq c h]; exact hs
  rw [restoreRef_eq, if_pos hs', if_pos hs', endCore_eq c h]
  rfl

/-- The same with another head selected. -/
theorem restoreRef_endCore_other {o : SweepOutcome} (h : o ≠ .complete)
    (hs : c.bay.ctrl.selHead ≠ c.bay.profile.refHead) : restoreRef (endCore o c) = { c with
    bay := { c.bay.sweepEnded o with
      acq := { c.bay.acq with run := 0, loss := 0 }
      counter := { c.bay.counter with qp := none, resolved := false }
      ctrl := c.bay.ctrl.restored c.bay.profile }
    frames := c.frames ++ c.bay.doneFrames c.id o
    records := c.records ++ headIfChanged c.bay.ctrl.selHead c.bay.profile.refHead } := by
  have hs' : (endCore o c).bay.ctrl.selHead ≠ (endCore o c).bay.profile.refHead := by rw [endCore_eq c h]; exact hs
  rw [restoreRef_eq, if_neg hs', if_neg hs', endCore_eq c h]
  rfl
end

section
variable {c : Ctx} {o : SweepOutcome}

theorem placeAfterSweep_of_acquire (ho : o ≠ .complete) (h : c.bay.ctrl.state = .acquire) :
    placeAfterSweep o c = c.setAcq { c.bay.acq with intent := .follow } := by
  cases o <;> first | exact absurd rfl ho | rfl | exact if_pos h

theorem placeAfterSweep_of_resolved (ho : o ≠ .lostServo) (h : c.bay.ctrl.state ≠ .acquire)
    (hr : c.bay.counter.resolved = true) :
    placeAfterSweep o c = c.setCtrl { c.bay.ctrl with state := .follow } := by
  have hx : (if c.ctrl.state = .acquire then c.setAcq { c.bay.acq with intent := .follow }
      else if c.bay.counter.resolved then c.setCtrl { c.ctrl with state := .follow } else enterAcquire .follow c) =
      c.setCtrl { c.bay.ctrl with state := .follow } := (if_neg h).trans (if_pos hr)
  cases o <;> first | exact absurd rfl ho | rfl | exact hx

theorem placeAfterSweep_of_unresolved (ho : o ≠ .complete) (ho' : o ≠ .lostServo) (h : c.bay.ctrl.state ≠ .acquire)
    (hr : c.bay.counter.resolved = false) : placeAfterSweep o c = enterAcquire .follow c := by
  have hx : (if c.ctrl.state = .acquire then c.setAcq { c.bay.acq with intent := .follow }
      else if c.bay.counter.resolved then c.setCtrl { c.ctrl with state := .follow } else enterAcquire .follow c) =
      enterAcquire .follow c := (if_neg h).trans (if_neg (Bool.eq_false_iff.1 hr))
  cases o <;> first | exact absurd rfl ho | exact absurd rfl ho' | exact hx
end

/-! ### The first steps of the boundary (R137, R138) -/

section
variable {c : Ctx}

theorem seqUsedUp_of_lt (h : c.bay.sweep.seqNext < 65536) : ¬ seqUsedUp c = true :=
  fun h' => absurd (of_decide_eq_true h') (Nat.not_le.2 h)

/-- A hold cause in the set holds the bay at the boundary (R137). -/
theorem boundary_of_held (hs : c.bay.sweep.seqNext < 65536) (hh : c.bay.sweep.holds.isEmpty = false) :
    boundary c = { c with bay := { c.bay with ctrl := { c.bay.ctrl with state := .held, watch := none } } } := by
  simp only [boundary, boundaryStep23, if_neg (seqUsedUp_of_lt hs),
    if_neg (show ¬ c.sweep.holds.isEmpty = true from Bool.eq_false_iff.1 hh)]
  rfl

/-- With no hold cause the boundary goes on at its step 3 (R138). -/
theorem boundary_of_free (hs : c.bay.sweep.seqNext < 65536) (hh : c.bay.sweep.holds.isEmpty = true) :
    boundary c = boundaryFrom3 c := by
  simp only [boundary, boundaryStep23, boundaryFrom3, if_neg (seqUsedUp_of_lt hs),
    if_pos (show c.sweep.holds.isEmpty = true from hh)]

/-- An empty log takes the boundary to the opening visit (R138). -/
theorem boundaryFrom3_opening (h : c.bay.meas.log = []) : boundaryFrom3 c = beginVisit .opening c := by
  simp [boundaryFrom3, boundaryStep3, h]

/-- A trigger that is due takes the boundary to the inline visit (R101, R138). -/
theorem boundaryFrom3_due (h : c.bay.meas.log ≠ []) (hd : c.bay.isDue = true) :
    boundaryFrom3 c = beginVisit .onTrigger { c with bay := c.bay.flagged } := by
  have hlog : ¬ c.meas.log.isEmpty = true := by simpa using h
  have hstep : boundaryStep3 c = (beginVisit .onTrigger (testTriggers c), false) := by
    rw [boundaryStep3, if_neg hlog]
    exact if_pos ((testTriggers_due c).trans hd)
  simp only [boundaryFrom3, hstep]
  rfl

/-- With no trigger due the boundary goes on at its step 4 (R138). -/
theorem boundaryFrom3_not_due (h : c.bay.meas.log ≠ []) (hd : c.bay.isDue = false) :
    boundaryFrom3 c = boundaryFrom4 { c with bay := c.bay.flagged } := by
  have hlog : ¬ c.meas.log.isEmpty = true := by simpa using h
  have hstep : boundaryStep3 c = (testTriggers c, true) := by
    rw [boundaryStep3, if_neg hlog]
    exact if_neg (Bool.eq_false_iff.1 ((testTriggers_due c).trans hd))
  simp only [boundaryFrom3, hstep]
  rfl

/-- A HELD bay whose set is empty resumes (R146). -/
theorem resumeIfFree_resumes (hs : c.bay.ctrl.state = .held) (hh : c.bay.sweep.holds.isEmpty = true) :
    resumeIfFree c = boundaryFrom3 { c with bay := { c.bay with ctrl := { c.bay.ctrl with state := .sweep } } } :=
  if_pos ⟨hh, hs⟩

theorem resumeIfFree_stays (h : c.bay.ctrl.state ≠ .held ∨ c.bay.sweep.holds.isEmpty = false) :
    resumeIfFree c = c := by
  refine if_neg fun ⟨h1, h2⟩ => ?_
  rcases h with h | h
  · exact h h2
  · exact Bool.eq_false_iff.1 h h1
end

/-! ### SWEEP_HOLD and SWEEP_RESUME (R146) -/

/-- The bay at work after SWEEP_RESUME has taken HOST and EVENT out. -/
def Ctx.released (c : Ctx) : Ctx :=
  c.setSweep { c.bay.sweep with holds := { c.bay.sweep.holds with host := false, event := false } }

theorem sweepResume_eq {c : Ctx} (h : c.bay.sweep.active = true) : sweepResume c =
    (resumeIfFree c.released, .ok, ({ c.bay.sweep.holds with host := false, event := false } : Holds).bytes ++
      [BitVec.ofNat 8 (resumeIfFree c.released).bay.ctrl.state.code]) := by
  rw [← stateByte_eq]
  exact if_pos h

/-- Settles O57, by the hold causes left. -/
theorem holdAndResume : Obligations.HoldAndResume := by
  intro s tag b z x f g held left
  refine ⟨fun hs => ⟨fun ha => ?_, fun ha => ?_⟩, fun hs => ⟨fun ha => ?_, fun ha hstay => ?_, fun ha hst hfree hlog hz hz2 => ?_⟩⟩
    <;> refine congrArg Host.Outcome.next ?_
  · exact bay_answers hs rfl (congrFun (withBay_byte b sweepHold) _) (if_neg (Bool.eq_false_iff.1 ha))
  · refine bay_grants hs rfl (congrFun (withBay_byte b sweepHold) _) (notes := []) ?_
    have hx : addCause .host (s.ctx b) = (s.ctx b).setSweep { x.sweep with holds := held } := if_pos ha
    rw [sweepHold, if_pos (show (s.ctx b).sweep.active = true from ha), hx]
    rfl
  · exact bay_answers hs rfl (congrFun (withBay_byte b sweepResume) _) (if_neg (Bool.eq_false_iff.1 ha))
  · refine bay_grants hs rfl (congrFun (withBay_byte b sweepResume) _) (notes := []) ?_
    rw [sweepResume_eq (c := s.ctx b) ha, resumeIfFree_stays (c := (s.ctx b).released) hstay]
    rfl
  · refine bay_grants hs rfl (congrFun (withBay_byte b sweepResume) _) (notes := []) ?_
    rw [sweepResume_eq (c := s.ctx b) ha, resumeIfFree_resumes (c := (s.ctx b).released) hst hfree,
      boundaryFrom3_opening (by exact hlog), beginVisit_eq _ _ (z := z) hz hz2 rfl]
    have hbytes : left.bytes = [0] := by
      rw [show left = Holds.none from beq_iff_eq.1 hfree]
      rfl
    exact congrArg (fun l => (_, Status.ok, l ++ [(4 : Byte)])) hbytes

/-! ### SWEEP_ABORT (R148) -/

theorem sweepAbort_eq {c : Ctx} (h : c.bay.sweep.active = true) :
    sweepAbort c = (endSweep .aborted c, .ok, [BitVec.ofNat 8 (endSweep .aborted c).bay.ctrl.state.code]) := by
  rw [← stateByte_eq]
  exact if_pos h

/-- Settles O58, by the bay's state, its counter and the selected head. -/
theorem sweepAbortEnds : Obligations.SweepAbortEnds := by
  intro s tag b x f ref ended restored unresolved gives hs
  have hsame := restoreRef_endCore_same (s.ctx b) (o := .aborted) (by decide)
  have hother := restoreRef_endCore_other (s.ctx b) (o := .aborted) (by decide)
  have haway (h : x.ctrl.state = .sweep ∨ x.ctrl.state = .held) : x.ctrl.state ≠ .acquire := by
    rcases h with h | h <;> simp [h]
  have grants {y : Bay} {state : Byte} {notes : List Note} (ha : x.sweep.active = true)
      (h : endSweep .aborted (s.ctx b) = ⟨b, y, x.doneFrames b .aborted, headIfChanged x.ctrl.selHead ref, notes⟩)
      (hst : BitVec.ofNat 8 y.ctrl.state.code = state) : gives y state := by
    refine congrArg Host.Outcome.next (bay_grants hs rfl (congrFun (withBay_byte b sweepAbort) _) (notes := notes) ?_)
    rw [sweepAbort_eq (c := s.ctx b) ha, h, hst]
  refine ⟨fun ha => ?_, fun ha => ⟨fun hst => ⟨fun hr hsel => ?_, fun hr => ?_⟩, fun hst => ⟨fun hsel => ?_, fun hsel => ?_⟩⟩, fun p => ?_⟩
  · exact congrArg Host.Outcome.next
      (bay_answers hs rfl (congrFun (withBay_byte b sweepAbort) _) (if_neg (Bool.eq_false_iff.1 ha)))
  · refine grants (notes := []) ha ?_ rfl
    rw [endSweep, hsame hsel, placeAfterSweep_of_resolved (by decide) (haway hst) hr]
    rfl
  · refine grants (notes := []) ha ?_ rfl
    by_cases hsel : x.ctrl.selHead = ref
    · rw [endSweep, hsame hsel, placeAfterSweep_of_unresolved (by decide) (by decide) (haway hst)
        (hr.resolve_right (not_not.2 hsel))]
      rfl
    · rw [endSweep, hother hsel, placeAfterSweep_of_unresolved (by decide) (by decide) (haway hst) rfl]
      rfl
  · refine grants (notes := []) ha ?_ ?_
    · rw [endSweep, hsame hsel, placeAfterSweep_of_acquire (by decide) hst]
      rfl
    · exact congrArg (fun st : BayState => BitVec.ofNat 8 st.code) hst
  · refine grants (notes := []) ha ?_ ?_
    · rw [endSweep, hother hsel, placeAfterSweep_of_acquire (by decide) hst]
      rfl
    · exact congrArg (fun st : BayState => BitVec.ofNat 8 st.code) hst
  · cases h : p.finding <;> simp [OffsetPart.unclosed, h]

/-! ### SWEEP_START (R51, R135, R136) -/

theorem Zone.centre_eq (z : Zone) : z.centre = (z.track : Int) * 4096 := by
  simp [Zone.centre]

section
variable {c : Ctx}

theorem sweepFits_iff : sweepFits c = true ↔ c.bay.store ≠ [] ∧ zoneGet c.bay.zones c.bay.profile.refZone ≠ none ∧
    c.bay.profile.refHead ≠ c.bay.profile.driftHead ∧ c.bay.profile.refHead < c.bay.profile.headCount ∧
    c.bay.profile.driftHead < c.bay.profile.headCount := by
  simp only [sweepFits, Bool.and_eq_true, decide_eq_true_eq, and_assoc]
  simp [Option.isSome_iff_ne_none]

theorem refCentre_eq {z : Zone} (hz : zoneGet c.bay.zones c.bay.profile.refZone = some z) :
    refCentre c = z.track * 4096 := by
  rw [← Zone.centre_eq, refCentre]
  simp [jobZone, hz]

/-- All that SWEEP_START does to the bay controller in IDLE (R51). -/
theorem startIdle_eq : startIdle c = { c with
    bay := { c.bay with
      acq := ⟨.sweep, 0, 0, 0⟩
      counter := { c.bay.counter with qp := none, resolved := false }
      ctrl := { c.bay.ctrl with
        state := .acquire, loopHead := c.bay.profile.refHead, selHead := c.bay.profile.refHead
        switchWait := if c.bay.profile.refHead ≠ c.bay.ctrl.selHead then c.bay.profile.headSwitchWedges
          else c.bay.ctrl.switchWait
        targetFinal := some (refCentre c), targetNow := none, prevErr := none, settle := 0
        frozen := false, watch := none } }
    records := c.records ++ headIfChanged c.bay.ctrl.selHead c.bay.profile.refHead } := by
  rw [startIdle, setLoopHead_ctx]
  by_cases hs : c.bay.ctrl.selHead = c.bay.profile.refHead
  · simp [enterAcquire, hs, Ctx.setCtrl, Ctx.setAcq, Ctx.setCounter, Counter.unresolve]
  · simp [enterAcquire, hs, Ne.symm hs, Ctx.setCtrl, Ctx.setAcq, Ctx.setCounter, Counter.unresolve]

/-- SWEEP_START in FOLLOW on the reference head runs the boundary at once (R51, R136). -/
theorem startFollow_eq (hl : c.bay.profile.refHead = c.bay.ctrl.loopHead)
    (hs : c.bay.profile.refHead = c.bay.ctrl.selHead) :
    startFollow c = boundary (c.setCtrl { c.bay.ctrl with state := .sweep }) := by
  rw [startFollow]
  simp only [setLoopHead_same c (h := c.profile.refHead) hl hs, Ctx.ctrl_eq]

theorem sweepStart_idle (h : c.bay.ctrl.state = .idle) (hf : sweepFits c = true) : sweepStart c =
    (startIdle (startEngine c), .ok,
      byte2 (startIdle (startEngine c)).sweep.number ++ stateByte (startIdle (startEngine c))) := by
  simp only [sweepStart, Ctx.ctrl_eq, h, hf, if_true]

theorem sweepStart_follow (h : c.bay.ctrl.state = .follow) (hf : sweepFits c = true) : sweepStart c =
    (startFollow (startEngine c), .ok,
      byte2 (startFollow (startEngine c)).sweep.number ++ stateByte (startFollow (startEngine c))) := by
  simp only [sweepStart, Ctx.ctrl_eq, h, hf, if_true]

theorem sweepStart_badArg (h : c.bay.ctrl.state = .idle ∨ c.bay.ctrl.state = .follow) (hf : ¬ sweepFits c = true) :
    sweepStart c = (c, .badArg, []) := by
  rcases h with h | h <;> simp only [sweepStart, Ctx.ctrl_eq, h, if_neg hf]

theorem sweepStart_busy (h1 : c.bay.ctrl.state ≠ .idle) (h2 : c.bay.ctrl.state ≠ .follow) :
    sweepStart c = (c, .busy, []) := by
  unfold sweepStart
  split
  · exact absurd ‹_› h1
  · exact absurd ‹_› h2
  · rfl
end

/-- Settles O56, by the state in which the sweep starts and the hold causes that stand. -/
theorem sweepStartBegins : Obligations.SweepStartBegins := by
  intro s tag b z x f ref fits number holds centre started hs
  have he (u : State) : withFields (readBay f.body) (fun b => withBay b sweepStart) u = onBayReply b sweepStart u :=
    congrFun (withBay_byte b sweepStart) u
  have hfit : sweepFits (s.ctx b) = true ↔ fits := sweepFits_iff
  refine ⟨fun h1 h2 => ?_, fun h hf => ?_, fun h hf hz => ?_, fun h hf hz hl hsel ht => ⟨fun hh => ?_, fun hh => ?_⟩⟩
    <;> refine congrArg Host.Outcome.next ?_
  · exact bay_answers hs rfl (he _) (sweepStart_busy h1 h2)
  · exact bay_answers hs rfl (he _) (sweepStart_badArg h fun h' => hf (hfit.1 h'))
  · refine bay_grants hs rfl (he _) (notes := []) ?_
    rw [sweepStart_idle h (hfit.2 hf), stateByte_eq, startIdle_eq, refCentre_eq (c := startEngine (s.ctx b)) hz]
    rfl
  · refine bay_grants hs rfl (he _) (notes := []) ?_
    have hx : startFollow (startEngine (s.ctx b)) =
        beginVisit .opening ((startEngine (s.ctx b)).setCtrl { x.ctrl with state := .sweep }) := by
      rw [startFollow_eq (c := startEngine (s.ctx b)) hl hsel]
      exact (boundary_of_free (Nat.zero_lt_succ 65535) hh).trans (boundaryFrom3_opening rfl)
    rw [sweepStart_follow h (hfit.2 hf), hx, stateByte_eq, beginVisit_eq _ _ (z := z) hz ht rfl]
    rfl
  · refine bay_grants hs rfl (he _) (notes := []) ?_
    have hx : startFollow (startEngine (s.ctx b)) =
        holdBay ((startEngine (s.ctx b)).setCtrl { x.ctrl with state := .sweep }) := by
      rw [startFollow_eq (c := startEngine (s.ctx b)) hl hsel]
      exact boundary_of_held (Nat.zero_lt_succ 65535) hh
    rw [sweepStart_follow h (hfit.2 hf), hx, stateByte_eq]
    rfl

/-! ### BAY_POWER (R45, R46) -/

section
variable (c : Ctx)

/-- All that powering an OFFLINE bay does (R45). -/
theorem powerOnBay_eq : powerOnBay c = { c with
    bay := { c.bay with
      counter := ⟨0, none, false, none, none⟩, intake := ⟨[], false⟩, acq := ⟨.follow, 0, 0, 0⟩
      ctrl := ⟨.idle, c.bay.ctrl.loopHead, c.bay.ctrl.selHead, 0, none, none, none, restOutput c.bay.profile 0, 0,
        false, none⟩
      meas := { c.bay.meas with window := none }
      pattern := c.bay.pattern.powered
      thermal := ⟨none, 0, true, false, false, false, false, c.bay.thermal.lastRef⟩ }
    records := c.records ++ [.power true] ++ [.head c.bay.ctrl.selHead] ++
      driveIfChanged 0 (restOutput c.bay.profile 0) } := by
  simp only [powerOnBay, setCommand_eq]
  rfl

/-- All that unpowering a bay with no sweep does (R46). -/
theorem powerOffBay_eq (h : c.bay.sweep.active = false) : powerOffBay c = { c with
    bay := { c.bay with
      counter := ⟨0, none, false, none, none⟩, intake := ⟨[], false⟩, acq := ⟨.follow, 0, 0, 0⟩
      ctrl := ⟨.offline, c.bay.ctrl.loopHead, c.bay.ctrl.loopHead, 0, none, none, none, 0, 0, false, none⟩
      meas := { c.bay.meas with window := none }
      pattern := c.bay.pattern.powered
      thermal := ⟨none, 0, false, false, false, false, false, c.bay.thermal.lastRef⟩ }
    records := c.records ++ driveIfChanged c.bay.ctrl.command 0 ++ [.power false] } := by
  simp only [powerOffBay, setCommand_eq, if_neg (show ¬ c.sweep.active = true from Bool.eq_false_iff.1 h)]
  rfl

/-- What unpowering a bay with a sweep leaves of its controller and its sweep (R46, R149). -/
theorem powerOffBay_active (h : c.bay.sweep.active = true) :
    (powerOffBay c).bay.ctrl.state = .offline ∧ (powerOffBay c).bay.ctrl.command = 0 ∧
      (powerOffBay c).bay.sweep.active = false ∧ (powerOffBay c).bay.sweep.lastOutcome = some .poweredOff := by
  simp only [powerOffBay, setCommand_eq, if_pos (show c.sweep.active = true from h), endCore_eq c (o := .poweredOff) (by decide)]
  exact ⟨rfl, rfl, rfl, rfl⟩

theorem bayPower_on (h : c.bay.ctrl.state = .offline) :
    bayPower 1 c = (powerOnBay c, .ok, [BitVec.ofNat 8 (powerOnBay c).bay.ctrl.state.code]) := by
  simp only [bayPower, bayPowerOn, if_pos (show c.ctrl.state = .offline from h), stateByte_eq]
  rfl

theorem bayPower_on_powered (h : c.bay.ctrl.state ≠ .offline) :
    bayPower 1 c = (c, .ok, [BitVec.ofNat 8 c.bay.ctrl.state.code]) := by
  simp only [bayPower, bayPowerOn, if_neg (show c.ctrl.state ≠ .offline from h), stateByte_eq]
  rfl

theorem bayPower_off (h : c.bay.ctrl.state ≠ .offline) :
    bayPower 0 c = (powerOffBay c, .ok, [BitVec.ofNat 8 (powerOffBay c).bay.ctrl.state.code]) := by
  simp only [bayPower, bayPowerOff, if_neg (show c.ctrl.state ≠ .offline from h), stateByte_eq]
  rfl

theorem bayPower_off_offline (h : c.bay.ctrl.state = .offline) :
    bayPower 0 c = (c, .ok, [BitVec.ofNat 8 c.bay.ctrl.state.code]) := by
  simp only [bayPower, bayPowerOff, if_pos (show c.ctrl.state = .offline from h), stateByte_eq]
  rfl
end

theorem restOutput_zero (p : Profile) :
    restOutput p 0 = if p.restOutput = .park then parkOutput p else 0 := by
  have h0 : clampSym p.currentLimit 0 = 0 := by rw [clampSym_eq]; omega
  unfold restOutput
  cases p.restOutput <;> simp [h0]

/-- Settles O47, by the option and the bay's state. -/
theorem bayPowerSwitches : Obligations.BayPowerSwitches := by
  refine ⟨?_, ?_⟩
  · intro s tag b x f out hs
    have he (u : State) : powerEffect [b.byte, 1] u = onBayReply b (bayPower 1) u := congrFun (withBay_byte b _) u
    have hout : restOutput x.profile 0 = out := restOutput_zero _
    refine ⟨fun h => ?_, fun h => ?_⟩ <;> refine congrArg Host.Outcome.next ?_
    · refine bay_grants hs rfl (he _) (notes := []) ?_
      rw [← hout, bayPower_on _ h, powerOnBay_eq]
      rfl
    · exact bay_answers hs rfl (he _) (bayPower_on_powered _ h)
  · intro s tag b x f hs
    have he (u : State) : powerEffect [b.byte, 0] u = onBayReply b (bayPower 0) u := congrFun (withBay_byte b _) u
    refine ⟨fun h ha => ?_, fun h ha => ?_, fun h => ?_⟩
    · refine congrArg Host.Outcome.next (bay_grants hs rfl (he _) (notes := []) ?_)
      rw [bayPower_off _ h, powerOffBay_eq _ ha]
      rfl
    · refine ⟨_, congrArg Host.Outcome.next (request_gives hs rfl (he _)), ?_⟩
      obtain ⟨h1, h2, h3, h4⟩ := powerOffBay_active (s.ctx b) ha
      have hb : (onBayReply b (bayPower 0) s.takeFrame).1.bays = s.bays.set b (powerOffBay (s.ctx b)).bay := by
        have hid : (powerOffBay (s.takeFrame.ctx b)).id = b := powerOffBay_id _
        simp only [onBayReply, bayPower_off (s.takeFrame.ctx b) h, commit_bays, hid]
        rfl
      simp only [addAnswer_bays, hb, PerBay.get_set_same]
      exact ⟨h1, h2, h3, h4, fun a ha => PerBay.get_set_other _ ha _⟩
    · refine congrArg Host.Outcome.next (bay_answers hs rfl (he _) ?_)
      rw [bayPower_off_offline _ h, show (s.ctx b).bay.ctrl.state = _ from h]
      rfl

end Sys2Proof.Machine

namespace Sys2Proof.Machine

/-! SUPPORT. BAY_PROFILE (R182, R183): the pairs read back, the values they store, the levels and the output
evaluated again, and statements O50 and O51. -/

/-! ### The body read back -/

theorem signed32_leBytes {v : Int} (h1 : -2147483648 ≤ v) (h2 : v < 2147483648) :
    signed32 (leNat (leBytes 4 v)) = v := by
  have e := leNat_leBytes 4 v
  norm_num at e
  unfold signed32
  split <;> omega

/-- The bytes of a pair of parameter id and value. -/
def pairBytes (q : Nat × Int) : List Byte := BitVec.ofNat 8 q.1 :: leBytes 4 q.2

theorem readParams_bytes {pairs : List (Nat × Int)}
    (h : ∀ q ∈ pairs, q.1 ≤ 255 ∧ -2147483648 ≤ q.2 ∧ q.2 < 2147483648) :
    readParams (pairs.flatMap pairBytes) = some pairs := by
  induction pairs with
  | nil => rfl
  | cons q l ih =>
    obtain ⟨h1, h2, h3⟩ := h q List.mem_cons_self
    have e1 : (BitVec.ofNat 8 q.1).toNat = q.1 := toNat_ofNat_byte (by omega)
    have e2 := signed32_leBytes h2 h3
    simp only [leBytes] at e2
    simp only [List.flatMap_cons, pairBytes, leBytes, List.cons_append, List.nil_append, readParams, e1, e2]
    rw [ih fun p hp => h p (List.mem_cons_of_mem _ hp)]

theorem readProfile_body (b : BayIx) {pairs : List (Nat × Int)} (hl : pairs.length ≤ 203)
    (h : ∀ q ∈ pairs, q.1 ≤ 255 ∧ -2147483648 ≤ q.2 ∧ q.2 < 2147483648) :
    readProfile (profileBody b pairs) = some (b.byte, pairs) := by
  have e : (BitVec.ofNat 8 pairs.length).toNat = pairs.length := toNat_ofNat_byte (by omega)
  have hr : readParams (pairs.flatMap fun p => BitVec.ofNat 8 p.1 :: leBytes 4 p.2) = some pairs := readParams_bytes h
  simp only [profileBody, readProfile, hr, e, if_true]

/-! ### The checks (R182) -/

theorem pairInvalid_iff (q : Nat × Int) :
    pairInvalid q = true ↔ 36 < q.1 ∨ ∃ vs, enumValues q.1 = some vs ∧ q.2 ∉ vs := by
  simp only [pairInvalid, Bool.or_eq_true, decide_eq_true_eq]
  cases enumValues q.1 <;> simp

theorem takesProfile_iff (st : BayState) : st.takesProfile = true ↔ st ∈ [.offline, .idle, .fault] := by
  cases st <;> simp [BayState.takesProfile]

section
variable {c : Ctx} {pairs : List (Nat × Int)}

theorem bayProfile_badArg (h : pairs.any pairInvalid = true) : bayProfile pairs c = (c, .badArg, []) := if_pos h

theorem bayProfile_nil : bayProfile [] c = (c, .ok, profileReply c.id [] c.bay.profile) := rfl

theorem bayProfile_busy (h : ¬ pairs.any pairInvalid = true) (hn : pairs ≠ [])
    (hs : c.bay.ctrl.state ∉ [.offline, .idle, .fault]) : bayProfile pairs c = (c, .busy, []) := by
  have ht : (!c.ctrl.state.takesProfile) = true := by
    rw [Bool.not_eq_true', Bool.eq_false_iff]
    exact fun h => hs ((takesProfile_iff _).1 h)
  rw [bayProfile, if_neg h, if_neg (by simpa using hn), if_pos ht]

theorem bayProfile_depth (h : ¬ pairs.any pairInvalid = true) (hs : c.bay.ctrl.state ∈ [.idle, .fault])
    (hq : ∃ q ∈ pairs, q.1 = 4) : bayProfile pairs c = (c, .busy, []) := by
  obtain ⟨q, hq, h4⟩ := hq
  have hn : ¬ pairs.isEmpty = true := by
    rintro he
    rw [List.isEmpty_iff.1 he] at hq
    cases hq
  have ht : ¬ (!c.ctrl.state.takesProfile) = true ∧ c.ctrl.state ≠ .offline := by
    simp only [List.mem_cons, List.not_mem_nil, or_false] at hs
    rcases hs with h | h <;> simp [h, BayState.takesProfile]
  have h4' : (pairs.any fun p => p.1 == 4) = true := List.any_eq_true.2 ⟨q, hq, by simpa using h4⟩
  rw [bayProfile, if_neg h, if_neg hn, if_neg ht.1, if_pos ⟨h4', ht.2⟩]

/-- A list that passes its checks is applied. -/
theorem bayProfile_stores (h : ¬ pairs.any pairInvalid = true) (hn : pairs ≠ [])
    (hs : c.bay.ctrl.state.takesProfile = true)
    (h4 : c.bay.ctrl.state = .offline ∨ ∀ q ∈ pairs, q.1 ≠ 4) :
    bayProfile pairs c = (setProfile (applyPairs c.bay.profile pairs).profile c,
      if (applyPairs c.bay.profile pairs).clamped = [] then .ok else .adjusted,
      profileReply c.id (applyPairs c.bay.profile pairs).clamped (applyPairs c.bay.profile pairs).profile) := by
  have h4' : ¬((pairs.any fun p => p.1 == 4) = true ∧ c.ctrl.state ≠ .offline) := by
    rintro ⟨ha, ho⟩
    obtain ⟨q, hq, hq4⟩ := List.any_eq_true.1 ha
    exact h4.elim ho fun h => h q hq (by simpa using hq4)
  rw [bayProfile, if_neg h, if_neg (by simpa using hn),
    if_neg (show ¬ (!c.ctrl.state.takesProfile) = true by simpa using hs), if_neg h4']
  simp only [List.isEmpty_iff]
  rfl
end

/-- Settles O50, in the order of R182's checks. -/
theorem bayProfileChecks : Obligations.BayProfileChecks := by
  intro s tag b pairs x f bad hl hp hs
  have he (u : State) : withFields (readProfile f.body) (fun y => withBay y.1 (bayProfile y.2)) u =
      onBayReply b (bayProfile pairs) u := by
    rw [readProfile_body b hl hp]
    exact congrFun (withBay_byte b _) u
  have hbad : pairs.any pairInvalid = true ↔ bad := by
    simp only [List.any_eq_true, pairInvalid_iff, bad]
  refine ⟨fun h => ?_, fun h => ⟨profileReply b [] x.profile, ?_⟩, fun h hn hst => ?_, fun h hst h4 => ?_⟩
  · exact congrArg Host.Outcome.next (bay_answers hs rfl (he _) (bayProfile_badArg (hbad.2 h)))
  · subst h
    exact congrArg Host.Outcome.next (bay_answers hs rfl (he _) bayProfile_nil)
  · exact congrArg Host.Outcome.next (bay_answers hs rfl (he _) (bayProfile_busy (fun h' => h (hbad.1 h')) hn hst))
  · exact congrArg Host.Outcome.next (bay_answers hs rfl (he _) (bayProfile_depth (fun h' => h (hbad.1 h')) hst h4))

/-! ### The values stored (R183) -/

/-- What a pair stores: a numeric value at the nearer end of its range, any other as given (R183). -/
def storedValue (q : Nat × Int) : Int :=
  match numericRange q.1 with
  | some (lo, hi) => clamp lo hi q.2
  | none => q.2

/-- Storing an unsigned value changes its place in the list of values alone. -/
theorem values_store_nat (p : Profile) {id n : Nat} (hid : id < 37) (hs : id ∉ [11, 31, 33, 36])
    (he : ∀ vs, enumValues id = some vs → (n : Int) ∈ vs) : (p.store id n).values = p.values.set id n := by
  by_cases h : id ∈ [5, 6, 30, 34, 35]
  · simp only [List.mem_cons, List.not_mem_nil, or_false] at h
    rcases h with rfl | rfl | rfl | rfl | rfl
    all_goals
      have hn := he _ rfl
      simp only [List.mem_cons, List.not_mem_nil, or_false] at hn
      norm_cast at hn
    · rcases hn with rfl | rfl <;> rfl
    · rcases hn with rfl | rfl <;> rfl
    · rcases hn with rfl | rfl <;> rfl
    · rcases hn with rfl | rfl | rfl <;> rfl
    · rcases hn with rfl | rfl | rfl <;> rfl
  · interval_cases id <;> first | rfl | exact absurd (by decide) hs | exact absurd (by decide) h

/-- Storing a value that R182 and R183 let through changes its place in the list of values alone. -/
theorem values_store (p : Profile) {id : Nat} {v : Int} (hid : id < 37)
    (he : ∀ vs, enumValues id = some vs → v ∈ vs) (hr : ∀ lo hi, numericRange id = some (lo, hi) → lo ≤ v) :
    (p.store id v).values = p.values.set id v := by
  by_cases hs : id ∈ [11, 31, 33, 36]
  · simp only [List.mem_cons, List.not_mem_nil, or_false] at hs
    rcases hs with rfl | rfl | rfl | rfl <;> rfl
  · have h0 : 0 ≤ v := by
      by_cases h : id ∈ [4, 5, 6, 30, 34, 35]
      · simp only [List.mem_cons, List.not_mem_nil, or_false] at h
        rcases h with rfl | rfl | rfl | rfl | rfl | rfl <;>
        · have := he _ rfl
          simp only [List.mem_cons, List.not_mem_nil, or_false] at this
          omega
      · interval_cases id <;> first | exact absurd (by decide) hs | exact absurd (by decide) h | skip
        all_goals
          have := hr _ _ rfl
          omega
    obtain ⟨n, rfl⟩ := Int.eq_ofNat_of_zero_le h0
    exact values_store_nat p hid hs he

/-- Within a range, the clamp is the nearer end. -/
theorem clamp_eq {lo hi : Int} (h : lo ≤ hi) (v : Int) : clamp lo hi v = max lo (min hi v) := by
  unfold clamp
  split_ifs <;> omega

theorem numericRange_le {id : Nat} {lo hi : Int} (h : numericRange id = some (lo, hi)) : lo ≤ hi := by
  unfold numericRange at h
  split at h <;> simp at h <;> omega

theorem numericRange_enum {id : Nat} {vs : List Int} (h : enumValues id = some vs) : numericRange id = none := by
  unfold enumValues at h
  split at h <;> first | rfl | simp at h

/-- A valid pair's value as stored, at its place in the list (R183). -/
theorem values_pair (a : Applied) {q : Nat × Int} (h : ¬ pairInvalid q = true) :
    (a.pair q).profile.values = a.profile.values.set q.1 (storedValue q) := by
  have hbad : ¬(36 < q.1 ∨ ∃ vs, enumValues q.1 = some vs ∧ q.2 ∉ vs) := fun h' => h ((pairInvalid_iff q).2 h')
  have hid : q.1 < 37 := by omega
  have henum : ∀ vs, enumValues q.1 = some vs → q.2 ∈ vs := fun vs he => by
    by_contra hm
    exact hbad (.inr ⟨vs, he, hm⟩)
  unfold Applied.pair storedValue
  cases hr : numericRange q.1 with
  | none =>
    exact values_store _ hid henum fun lo hi h => by simp [hr] at h
  | some r =>
    obtain ⟨lo, hi⟩ := r
    have hput (a : Applied) (w : Int) : (a.put q.1 lo hi w).profile = a.profile.store q.1 (clamp lo hi w) := by
      unfold Applied.put Applied.list
      dsimp only
      split_ifs <;> rfl
    rw [hput]
    refine values_store _ hid (fun vs he => ?_) fun lo' hi' h => ?_
    · simp [numericRange_enum he] at hr
    · rw [hr] at h
      cases h
      rw [clamp_eq (numericRange_le hr)]
      omega

/-- A list of changes of single places leaves at each place the last change made there. -/
theorem getElem?_foldl_set {α β : Type} (g : Nat × β → α) (l : List α) (pairs : List (Nat × β)) {k : Nat}
    (hk : k < l.length) : (pairs.foldl (fun l q => l.set q.1 (g q)) l)[k]? =
      match (pairs.filter fun q => q.1 = k).getLast? with
      | some q => some (g q)
      | none => l[k]? := by
  have hlen (pairs : List (Nat × β)) : ((pairs.foldl (fun l q => l.set q.1 (g q)) l)).length = l.length := by
    clear hk
    induction pairs generalizing l with
    | nil => rfl
    | cons q ps ih => rw [List.foldl_cons, ih, List.length_set]
  induction pairs using List.reverseRecOn with
  | nil => rfl
  | append_singleton ps q ih =>
    rw [List.foldl_append, List.foldl_cons, List.foldl_nil, List.filter_append, List.getElem?_set, hlen]
    by_cases h1 : q.1 = k
    · simp [h1, hk]
    · simp [h1, ih]

/-- The values after a list of valid pairs, before cutoff_temp is tested (R183). -/
theorem values_pairs (a : Applied) {pairs : List (Nat × Int)} (h : ∀ q ∈ pairs, ¬ pairInvalid q = true) :
    (pairs.foldl Applied.pair a).profile.values =
      pairs.foldl (fun l q => l.set q.1 (storedValue q)) a.profile.values := by
  induction pairs generalizing a with
  | nil => rfl
  | cons q l ih =>
    rw [List.foldl_cons, List.foldl_cons, ih _ fun p hp => h p (List.mem_cons_of_mem _ hp),
      values_pair a (h q List.mem_cons_self)]

/-- The value of an id's last pair, if it has one. -/
def lastValue (pairs : List (Nat × Int)) (id : Nat) : Option Int :=
  ((pairs.filter fun q => q.1 = id).getLast?).map Prod.snd

/-- Each value is that of the id's last pair, at the nearer end of its range, else the one that stood. -/
theorem values_pairs_get (a : Applied) {pairs : List (Nat × Int)} (h : ∀ q ∈ pairs, ¬ pairInvalid q = true)
    {id : Nat} (hid : id < 37) : (pairs.foldl Applied.pair a).profile.values[id]? =
      match lastValue pairs id, numericRange id with
      | some v, some (lo, hi) => some (max lo (min hi v))
      | some v, none => some v
      | none, _ => a.profile.values[id]? := by
  rw [values_pairs a h, getElem?_foldl_set _ _ _ (show id < a.profile.values.length from hid), lastValue]
  cases hq : (pairs.filter fun q => q.1 = id).getLast? with
  | none => rfl
  | some q =>
    have hq1 : q.1 = id := by
      have := List.mem_of_getLast? hq
      simpa using (List.mem_filter.1 this).2
    simp only [Option.map_some, storedValue, hq1]
    cases hr : numericRange id with
    | none => rfl
    | some r => exact congrArg some (clamp_eq (numericRange_le hr) q.2)

/-! ### The ids listed as clamped (R183) -/

/-- Whether a pair's value is out of its range. -/
def pairClamps (q : Nat × Int) : Bool :=
  match numericRange q.1 with
  | some (lo, hi) => decide (q.2 < lo ∨ hi < q.2)
  | none => false

/-- An id put at the end of a list unless it is there. -/
def listOnce (l : List Nat) (q : Nat × Int) : List Nat := if q.1 ∈ l then l else l ++ [q.1]

theorem clamped_pair (a : Applied) (q : Nat × Int) :
    (a.pair q).clamped = if pairClamps q = true then listOnce a.clamped q else a.clamped := by
  unfold Applied.pair pairClamps
  cases hr : numericRange q.1 with
  | none => rfl
  | some r =>
    obtain ⟨lo, hi⟩ := r
    have hle := numericRange_le hr
    have hc : clamp lo hi q.2 = q.2 ↔ ¬(q.2 < lo ∨ hi < q.2) := by
      rw [clamp_eq hle]
      omega
    unfold Applied.put Applied.list listOnce
    by_cases h : q.2 < lo ∨ hi < q.2
    · simp only [h, decide_true, if_true, if_neg fun e => hc.1 e h, List.contains_eq_mem, decide_eq_true_eq]
      split_ifs <;> rfl
    · simp only [h, decide_false, if_pos (hc.2 h)]
      rfl

theorem clamped_pairs (a : Applied) (pairs : List (Nat × Int)) :
    (pairs.foldl Applied.pair a).clamped = (pairs.filter pairClamps).foldl listOnce a.clamped := by
  induction pairs generalizing a with
  | nil => rfl
  | cons q l ih =>
    rw [List.foldl_cons, ih, clamped_pair, List.filter_cons]
    split_ifs <;> rfl

/-- Every id listed is of a pair that clamps. -/
theorem mem_foldl_listOnce {k : Nat} {pairs : List (Nat × Int)} {l : List Nat} (h : k ∈ pairs.foldl listOnce l) :
    k ∈ l ∨ ∃ q ∈ pairs, q.1 = k := by
  induction pairs generalizing l with
  | nil => exact .inl h
  | cons q ps ih =>
    rcases ih h with h | ⟨p, hp, hk⟩
    · unfold listOnce at h
      split_ifs at h
      · exact .inl h
      · rcases List.mem_append.1 h with h | h
        · exact .inl h
        · exact .inr ⟨q, List.mem_cons_self, (List.mem_singleton.1 h).symm⟩
    · exact .inr ⟨p, List.mem_cons_of_mem _ hp, hk⟩

/-! ### The profile a list gives (R183) -/

section
variable (p : Profile) (pairs : List (Nat × Int))

/-- The profile after the pairs, before cutoff_temp is tested. -/
def pairsApplied : Applied := pairs.foldl Applied.pair ⟨p, []⟩

theorem applyPairs_eq : applyPairs p pairs =
    (pairsApplied p pairs).put 33 ((pairsApplied p pairs).profile.holdTemp + 4) 600
      (pairsApplied p pairs).profile.cutoffTemp := rfl

theorem applyPairs_profile : (applyPairs p pairs).profile = { (pairsApplied p pairs).profile with
    cutoffTemp := clamp ((pairsApplied p pairs).profile.holdTemp + 4) 600 (pairsApplied p pairs).profile.cutoffTemp } := by
  rw [applyPairs_eq]
  unfold Applied.put Applied.list
  dsimp only
  split_ifs <;> rfl

variable {p pairs} (h : ∀ q ∈ pairs, ¬ pairInvalid q = true)
include h

theorem pairsApplied_cutoff : (pairsApplied p pairs).profile.cutoffTemp = (lastValue pairs 33).getD p.cutoffTemp := by
  have hv := values_pairs_get ⟨p, []⟩ h (id := 33) (by omega)
  have h1 : (pairsApplied p pairs).profile.values[33]? = some (pairsApplied p pairs).profile.cutoffTemp := rfl
  rw [pairsApplied] at *
  rw [h1] at hv
  cases hl : lastValue pairs 33 <;> simp only [hl] at hv
  · exact Option.some.inj (hv.trans rfl)
  · exact Option.some.inj hv

theorem pairsApplied_hold (hp : p.holdTemp ≤ 596) : (pairsApplied p pairs).profile.holdTemp ≤ 596 := by
  have hv := values_pairs_get ⟨p, []⟩ h (id := 31) (by omega)
  have h1 : (pairsApplied p pairs).profile.values[31]? = some (pairsApplied p pairs).profile.holdTemp := rfl
  have h2 : numericRange 31 = some (-160, 596) := rfl
  rw [pairsApplied] at *
  rw [h1, h2] at hv
  cases hl : lastValue pairs 31 <;> simp only [hl] at hv
  · exact (Option.some.inj (hv.trans rfl : some _ = some p.holdTemp)).le.trans hp
  · have := Option.some.inj hv
    omega

theorem applyPairs_values {id : Nat} (hid : id < 37) (h33 : id ≠ 33) : (applyPairs p pairs).profile.values[id]? =
    match lastValue pairs id, numericRange id with
      | some v, some (lo, hi) => some (max lo (min hi v))
      | some v, none => some v
      | none, _ => p.values[id]? := by
  have hset : (applyPairs p pairs).profile.values = (pairsApplied p pairs).profile.values.set 33
      (clamp ((pairsApplied p pairs).profile.holdTemp + 4) 600 (pairsApplied p pairs).profile.cutoffTemp) := by
    rw [applyPairs_profile]
    rfl
  rw [hset, List.getElem?_set_ne (Ne.symm h33)]
  exact values_pairs_get ⟨p, []⟩ h hid

theorem applyPairs_cutoff (hp : p.holdTemp ≤ 596) : (applyPairs p pairs).profile.cutoffTemp =
    max ((applyPairs p pairs).profile.holdTemp + 4) (min 600 ((lastValue pairs 33).getD p.cutoffTemp)) := by
  have := pairsApplied_hold h hp
  rw [← pairsApplied_cutoff h, ← clamp_eq (by rw [applyPairs_profile]; dsimp only; omega), applyPairs_profile]

theorem applyPairs_clamped : (applyPairs p pairs).clamped =
    if (applyPairs p pairs).profile.cutoffTemp = (lastValue pairs 33).getD p.cutoffTemp then
      (pairs.filter pairClamps).foldl listOnce []
    else (pairs.filter pairClamps).foldl listOnce [] ++ [33] := by
  have hlist : (pairsApplied p pairs).clamped = (pairs.filter pairClamps).foldl listOnce [] := clamped_pairs _ _
  have h33 : 33 ∉ (pairsApplied p pairs).clamped := by
    rw [hlist]
    intro hm
    rcases mem_foldl_listOnce hm with hm | ⟨q, hq, hq33⟩
    · cases hm
    · have := (List.mem_filter.1 hq).2
      rw [pairClamps, hq33] at this
      cases this
  rw [applyPairs_profile, ← pairsApplied_cutoff h, ← hlist, applyPairs_eq]
  unfold Applied.put Applied.list
  dsimp only
  split_ifs with h1 h2
  · rfl
  · exact absurd (by simpa using h2) h33
  · rfl
end

/-! ### Levels and output evaluated again (R65, R162) -/

/-- The hold level against the temperature (R156). -/
def Thermal.holdLevel (t : Thermal) (p : Profile) : Bool :=
  match t.temp with
  | none => t.hold
  | some v => if t.hold = true then decide (p.holdTemp - p.hyst ≤ v) else decide (p.holdTemp ≤ v)

/-- The cutoff level against the temperature (R157). -/
def Thermal.cutoffLevel (t : Thermal) (p : Profile) : Bool :=
  match t.temp with
  | none => t.cutoff
  | some v => if t.cutoff = true then decide (p.cutoffTemp - p.hyst ≤ v) else decide (p.cutoffTemp ≤ v)

/-- What the hold level's evaluation raises (R156). -/
def Thermal.holdEvents (t : Thermal) (p : Profile) : List Details :=
  if t.hold = false ∧ t.holdLevel p = true then [.tempHold (t.temp.getD 0) p.holdTemp]
  else if t.hold = true ∧ t.holdLevel p = false then [.tempClear (t.temp.getD 0) (p.holdTemp - p.hyst)] else []

/-- What the cutoff level's evaluation raises (R157). -/
def Thermal.cutoffEvents (t : Thermal) (p : Profile) (st : BayState) : List Details :=
  if t.cutoff = false ∧ t.cutoffLevel p = true then [.tempCutoff (t.temp.getD 0) p.cutoffTemp st] else []

section
variable {c : Ctx} {v : Int}

/-- A hold level that stands (R156). -/
theorem evalHold_same (h : c.bay.thermal.holdLevel c.bay.profile = c.bay.thermal.hold) : evalHold c = c := by
  obtain ht | ⟨v, ht⟩ := Option.eq_none_or_eq_some c.bay.thermal.temp
  · simp [evalHold, ht]
  · by_cases hh : c.bay.thermal.hold = true
    · have hv : ¬ v < c.bay.profile.holdTemp - c.bay.profile.hyst := by
        simp only [Thermal.holdLevel, ht, hh, if_true, decide_eq_true_eq] at h
        omega
      simp [evalHold, ht, hh, hv]
    · have hv : ¬ c.bay.profile.holdTemp ≤ v := by
        have hf := Bool.not_eq_true _ ▸ hh
        simpa [Thermal.holdLevel, ht, hf] using h
      simp [evalHold, ht, hh, hv]

/-- A hold level that rises (R156). -/
theorem evalHold_rises (ht : c.bay.thermal.temp = some v) (hh : c.bay.thermal.hold = false)
    (hv : c.bay.profile.holdTemp ≤ v) : evalHold c = addCause .thermal
      ((raise (.tempHold v c.bay.profile.holdTemp) c).setThermal { c.bay.thermal with hold := true }) := by
  simp [evalHold, ht, hh, hv]

/-- A hold level that falls (R156). -/
theorem evalHold_falls (ht : c.bay.thermal.temp = some v) (hh : c.bay.thermal.hold = true)
    (hv : v < c.bay.profile.holdTemp - c.bay.profile.hyst) : evalHold c = removeCause .thermal
      ((raise (.tempClear v (c.bay.profile.holdTemp - c.bay.profile.hyst)) c).setThermal
        { c.bay.thermal with hold := false }) := by
  simp [evalHold, ht, hh, hv]

/-- A cutoff level that does not rise raises nothing (R157). -/
theorem evalCutoff_quiet (h : ¬(c.bay.thermal.cutoff = false ∧ c.bay.thermal.cutoffLevel c.bay.profile = true)) :
    evalCutoff c = c.setThermal { c.bay.thermal with cutoff := c.bay.thermal.cutoffLevel c.bay.profile } := by
  have same (e : c.bay.thermal.cutoffLevel c.bay.profile = c.bay.thermal.cutoff) :
      c.setThermal { c.bay.thermal with cutoff := c.bay.thermal.cutoffLevel c.bay.profile } = c := by rw [e]; rfl
  obtain ht | ⟨v, ht⟩ := Option.eq_none_or_eq_some c.bay.thermal.temp
  · rw [same (by simp only [Thermal.cutoffLevel, ht])]
    simp [evalCutoff, ht]
  · by_cases hh : c.bay.thermal.cutoff = true
    · have hl : c.bay.thermal.cutoffLevel c.bay.profile = decide (c.bay.profile.cutoffTemp - c.bay.profile.hyst ≤ v) := by
        simp only [Thermal.cutoffLevel, ht, hh, if_true]
      by_cases hv : v < c.bay.profile.cutoffTemp - c.bay.profile.hyst
      · rw [hl, decide_eq_false (by omega)]
        simp [evalCutoff, ht, hh, hv]
      · rw [same (by rw [hl, hh, decide_eq_true (by omega)])]
        simp [evalCutoff, ht, hh, hv]
    · have hf : c.bay.thermal.cutoff = false := Bool.not_eq_true _ ▸ hh
      have hl : c.bay.thermal.cutoffLevel c.bay.profile = false := Bool.not_eq_true _ ▸ fun h' => h ⟨hf, h'⟩
      have hv : ¬ c.bay.profile.cutoffTemp ≤ v := by simpa [Thermal.cutoffLevel, ht, hf] using hl
      rw [same (hl.trans hf.symm)]
      simp [evalCutoff, ht, hh, hv]

/-- A cutoff level that rises (R157). -/
theorem evalCutoff_rises (ht : c.bay.thermal.temp = some v) (hh : c.bay.thermal.cutoff = false)
    (hv : c.bay.profile.cutoffTemp ≤ v) : evalCutoff c =
      (raise (.tempCutoff v c.bay.profile.cutoffTemp c.bay.ctrl.state) c).setThermal
        { c.bay.thermal with cutoff := true } := by
  simp [evalCutoff, ht, hh, hv]

/-- A level rises by a temperature that is known. -/
theorem holdLevel_rises (hh : c.bay.thermal.hold = false) (hl : c.bay.thermal.holdLevel c.bay.profile = true) :
    ∃ v, c.bay.thermal.temp = some v ∧ c.bay.profile.holdTemp ≤ v := by
  unfold Thermal.holdLevel at hl
  cases ht : c.bay.thermal.temp <;> simp [ht, hh] at hl
  exact ⟨_, rfl, hl⟩

theorem holdLevel_falls (hh : c.bay.thermal.hold = true) (hl : c.bay.thermal.holdLevel c.bay.profile = false) :
    ∃ v, c.bay.thermal.temp = some v ∧ v < c.bay.profile.holdTemp - c.bay.profile.hyst := by
  unfold Thermal.holdLevel at hl
  cases ht : c.bay.thermal.temp <;> simp [ht, hh] at hl
  exact ⟨_, rfl, by omega⟩

theorem cutoffLevel_rises (hh : c.bay.thermal.cutoff = false) (hl : c.bay.thermal.cutoffLevel c.bay.profile = true) :
    ∃ v, c.bay.thermal.temp = some v ∧ c.bay.profile.cutoffTemp ≤ v := by
  unfold Thermal.cutoffLevel at hl
  cases ht : c.bay.thermal.temp <;> simp [ht, hh] at hl
  exact ⟨_, rfl, hl⟩
end

section
variable {c : Ctx} (h : c.bay.sweep.active = false)
include h

/-- With no sweep active, raising an event sets its flag and offers its frame (R166). -/
theorem raise_idle (d : Details) : raise d c = { c with
    bay := { c.bay with unit := c.bay.unit.setFlag d.kind }
    frames := c.frames ++ c.bay.unit.offers c.id d } := by
  have hn : ¬(c.bay.unit.disposition d.kind = .hold ∧ c.bay.sweep.active = true) := fun h' =>
    Bool.eq_false_iff.1 h h'.2
  rw [raise_eq, Bay.raising, if_neg hn]

theorem addCause_idle (k : HoldCause) : addCause k c = c := if_neg (Bool.eq_false_iff.1 h)

theorem removeCause_idle (k : HoldCause) : removeCause k c = c := if_neg (Bool.eq_false_iff.1 h)

/-- The hold level evaluated with no sweep active (R156). -/
theorem evalHold_idle : evalHold c = { c with
    bay := { c.bay with
      thermal := { c.bay.thermal with hold := c.bay.thermal.holdLevel c.bay.profile }
      unit := (c.bay.thermal.holdEvents c.bay.profile).foldl (fun u d => u.setFlag d.kind) c.bay.unit }
    frames := c.frames ++ (c.bay.thermal.holdEvents c.bay.profile).flatMap (c.bay.unit.offers c.id) } := by
  by_cases e : c.bay.thermal.holdLevel c.bay.profile = c.bay.thermal.hold
  · have he : c.bay.thermal.holdEvents c.bay.profile = [] := by
      rw [Thermal.holdEvents, e]
      simp
    rw [evalHold_same e, e, he]
    simp
  · by_cases hh : c.bay.thermal.hold = true
    · have hl : c.bay.thermal.holdLevel c.bay.profile = false := by simpa [hh] using e
      obtain ⟨v, ht, hv⟩ := holdLevel_falls hh hl
      rw [evalHold_falls ht hh hv, removeCause_idle (by simpa [raise_idle h] using h), raise_idle h]
      simp [Thermal.holdEvents, hh, hl, ht, Ctx.setThermal]
    · have hf : c.bay.thermal.hold = false := Bool.not_eq_true _ ▸ hh
      have hl : c.bay.thermal.holdLevel c.bay.profile = true := by simpa [hf] using e
      obtain ⟨v, ht, hv⟩ := holdLevel_rises hf hl
      rw [evalHold_rises ht hf hv, addCause_idle (by simpa [raise_idle h] using h), raise_idle h]
      simp [Thermal.holdEvents, hf, hl, ht, Ctx.setThermal]

/-- The cutoff level evaluated with no sweep active (R157). -/
theorem evalCutoff_idle : evalCutoff c = { c with
    bay := { c.bay with
      thermal := { c.bay.thermal with cutoff := c.bay.thermal.cutoffLevel c.bay.profile }
      unit := (c.bay.thermal.cutoffEvents c.bay.profile c.bay.ctrl.state).foldl (fun u d => u.setFlag d.kind) c.bay.unit }
    frames := c.frames ++
      (c.bay.thermal.cutoffEvents c.bay.profile c.bay.ctrl.state).flatMap (c.bay.unit.offers c.id) } := by
  by_cases hr : c.bay.thermal.cutoff = false ∧ c.bay.thermal.cutoffLevel c.bay.profile = true
  · obtain ⟨v, ht, hv⟩ := cutoffLevel_rises hr.1 hr.2
    rw [evalCutoff_rises ht hr.1 hv, raise_idle h]
    simp [Thermal.cutoffEvents, hr.1, hr.2, ht, Ctx.setThermal]
  · rw [evalCutoff_quiet hr, Thermal.cutoffEvents, if_neg hr]
    simp [Ctx.setThermal]

/-- All that entering FAULT does with no sweep active and no other head selected (R54). -/
theorem enterFault_idle (o : SweepOutcome) (hs : c.bay.ctrl.selHead = c.bay.ctrl.loopHead) : enterFault o c = { c with
    bay := { c.bay with
      acq := { c.bay.acq with run := 0 }
      ctrl := { c.bay.ctrl with
        state := .fault, targetFinal := none, targetNow := none, prevErr := none, settle := 0
        command := parkOutput c.bay.profile, frozen := false, watch := none } }
    records := c.records ++ driveIfChanged c.bay.ctrl.command (parkOutput c.bay.profile) } := by
  have hx : headSelect c.bay.ctrl.loopHead (c.setCtrl { c.bay.ctrl with frozen := false, watch := none }) =
      c.setCtrl { c.bay.ctrl with frozen := false, watch := none } := headSelect_same _ _ hs.symm
  simp only [enterFault, if_neg (show ¬ c.sweep.active = true from Bool.eq_false_iff.1 h), setCommand_eq, Ctx.ctrl_eq, hx]
  rfl
end

/-- A rise takes a bay of no state but OFFLINE and FAULT to FAULT (R160). -/
theorem afterCutoff_rises {c : Ctx} {before : Bool} (hb : before = false)
    (hn : cutoffPresent c.bay.profile c.bay.thermal = true) (h1 : c.bay.ctrl.state ≠ .fault)
    (h2 : c.bay.ctrl.state ≠ .offline) : afterCutoff before c = enterFault .faulted c := by
  have hr : cutoffRises c = enterFault .faulted c := by
    unfold cutoffRises
    split
    · exact absurd ‹_› h1
    · exact absurd ‹_› h2
    · rfl
  rw [afterCutoff, hb, ← hr]
  exact if_pos (by simpa using hn)

/-- With no rise, or in FAULT or OFFLINE, the bay stays (R160). -/
theorem afterCutoff_stays {c : Ctx} {before : Bool}
    (h : before = true ∨ cutoffPresent c.bay.profile c.bay.thermal = false ∨ c.bay.ctrl.state = .fault ∨
      c.bay.ctrl.state = .offline) : afterCutoff before c = c := by
  unfold afterCutoff
  split
  · rename_i hr
    simp only [Bool.and_eq_true, Bool.not_eq_true', Ctx.profile_eq, Ctx.thermal_eq] at hr
    unfold cutoffRises
    rcases h with h | h | h | h
    · exact absurd (h.symm.trans hr.1) (by decide)
    · exact absurd (h.symm.trans hr.2) (by decide)
    · simp [h]
    · simp [h]
  · rfl

theorem offers_foldl_setFlag (l : List Details) (u : EventUnit) (b : BayIx) :
    (l.foldl (fun u d => u.setFlag d.kind) u).offers b = u.offers b := by
  induction l generalizing u with
  | nil => rfl
  | cons d l ih => exact ih _

/-- What the two levels raise (R156, R157). -/
def Bay.levelEvents (x : Bay) : List Details :=
  x.thermal.holdEvents x.profile ++ x.thermal.cutoffEvents x.profile x.ctrl.state

/-- Both levels evaluated with no sweep active (R162). -/
theorem levels_idle {c : Ctx} (h : c.bay.sweep.active = false) : evalCutoff (evalHold c) = { c with
    bay := { c.bay with
      thermal := { c.bay.thermal with
        hold := c.bay.thermal.holdLevel c.bay.profile, cutoff := c.bay.thermal.cutoffLevel c.bay.profile }
      unit := c.bay.levelEvents.foldl (fun u d => u.setFlag d.kind) c.bay.unit }
    frames := c.frames ++ c.bay.levelEvents.flatMap (c.bay.unit.offers c.id) } := by
  rw [evalHold_idle h]
  refine (evalCutoff_idle (by exact h)).trans ?_
  rw [Bay.levelEvents, List.foldl_append, List.flatMap_append, ← List.append_assoc]
  simp only [offers_foldl_setFlag]
  rfl

section
variable {c : Ctx}

theorem reevaluateOutput_idle (h : c.bay.ctrl.state = .idle) :
    reevaluateOutput c = setCommand (restOutput c.bay.profile c.bay.ctrl.command) c := by
  simp [reevaluateOutput, h]

theorem reevaluateOutput_fault (h : c.bay.ctrl.state = .fault) :
    reevaluateOutput c = setCommand (parkOutput c.bay.profile) c := by
  simp [reevaluateOutput, h]

/-- A command that stands sends nothing (R66). -/
theorem setCommand_same (v : Int) (h : v = c.bay.ctrl.command) : setCommand v c = c := if_pos h
end

/-- The bay after a profile change whose levels are evaluated again (R162). -/
def Bay.reprofiled (x : Bay) (p : Profile) : Bay :=
  { x with
    profile := p
    thermal := { x.thermal with hold := x.thermal.holdLevel p, cutoff := x.thermal.cutoffLevel p }
    unit := ({ x with profile := p } : Bay).levelEvents.foldl (fun u d => u.setFlag d.kind) x.unit }

/-- The bay at work after a profile change, before the cutoff condition acts. -/
def Ctx.reprofiled (c : Ctx) (p : Profile) : Ctx := { c with
  bay := c.bay.reprofiled p
  frames := c.frames ++ ({ c.bay with profile := p } : Bay).levelEvents.flatMap (c.bay.unit.offers c.id) }

section
variable {c : Ctx} (p : Profile) (ha : c.bay.sweep.active = false)
include ha

theorem reprofiled_eq : evalCutoff (evalHold (c.setProfile p)) = c.reprofiled p :=
  levels_idle (c := c.setProfile p) ha

theorem setProfile_fault (h : c.bay.ctrl.state = .fault) : setProfile p c = { c with
    bay := { c.bay.reprofiled p with ctrl := { c.bay.ctrl with command := parkOutput p } }
    frames := c.frames ++ ({ c.bay with profile := p } : Bay).levelEvents.flatMap (c.bay.unit.offers c.id)
    records := c.records ++ driveIfChanged c.bay.ctrl.command (parkOutput p) } := by
  rw [setProfile, reevaluateThermal, reprofiled_eq p ha, afterCutoff_stays (c := c.reprofiled p) (.inr (.inr (.inl h))),
    reevaluateOutput_fault (c := c.reprofiled p) h, setCommand_eq]
  rfl

theorem setProfile_idle_stays (h : c.bay.ctrl.state = .idle)
    (hn : cutoffPresent c.bay.profile c.bay.thermal = true ∨ cutoffPresent p (c.bay.reprofiled p).thermal = false) :
    setProfile p c = { c with
    bay := { c.bay.reprofiled p with ctrl := { c.bay.ctrl with command := restOutput p c.bay.ctrl.command } }
    frames := c.frames ++ ({ c.bay with profile := p } : Bay).levelEvents.flatMap (c.bay.unit.offers c.id)
    records := c.records ++ driveIfChanged c.bay.ctrl.command (restOutput p c.bay.ctrl.command) } := by
  rw [setProfile, reevaluateThermal, reprofiled_eq p ha, Ctx.profile_eq, Ctx.thermal_eq, afterCutoff_stays (c := c.reprofiled p) (hn.imp id .inl),
    reevaluateOutput_idle (c := c.reprofiled p) h, setCommand_eq]
  rfl

theorem setProfile_idle_rises (h : c.bay.ctrl.state = .idle)
    (hb : cutoffPresent c.bay.profile c.bay.thermal = false) (hn : cutoffPresent p (c.bay.reprofiled p).thermal = true)
    (hs : c.bay.ctrl.selHead = c.bay.ctrl.loopHead) : setProfile p c = { c with
    bay := { c.bay.reprofiled p with
      acq := { c.bay.acq with run := 0 }
      ctrl := { c.bay.ctrl with
        state := .fault, targetFinal := none, targetNow := none, prevErr := none, settle := 0
        command := parkOutput p, frozen := false, watch := none } }
    frames := c.frames ++ ({ c.bay with profile := p } : Bay).levelEvents.flatMap (c.bay.unit.offers c.id)
    records := c.records ++ driveIfChanged c.bay.ctrl.command (parkOutput p) } := by
  have hst (st : BayState) (hst : st ≠ .idle) : c.bay.ctrl.state ≠ st := fun e => hst (e.symm.trans h)
  rw [setProfile, reevaluateThermal, reprofiled_eq p ha, Ctx.profile_eq, Ctx.thermal_eq,
    afterCutoff_rises (c := c.reprofiled p) hb hn (hst .fault (by decide)) (hst .offline (by decide)),
    enterFault_idle (c := c.reprofiled p) ha _ hs,
    reevaluateOutput_fault rfl]
  exact setCommand_same _ rfl
end

/-- An OFFLINE bay with no temperature only stores (R65, R162). -/
theorem setProfile_offline {c : Ctx} (p : Profile) (h : c.bay.ctrl.state = .offline) (hc : c.bay.ctrl.command = 0)
    (ht : c.bay.thermal.temp = none) : setProfile p c = c.setProfile p := by
  have h1 : evalHold (c.setProfile p) = c.setProfile p := evalHold_same (by simp [Thermal.holdLevel, ht])
  have h2 : evalCutoff (c.setProfile p) = c.setProfile p := by simp [evalCutoff, ht]
  rw [setProfile, reevaluateThermal, h1, h2, afterCutoff_stays (c := c.setProfile p) (.inr (.inr (.inr h)))]
  simp only [reevaluateOutput, Ctx.ctrl_eq, Ctx.setProfile_bay_ctrl, h]
  exact setCommand_same _ hc.symm

/-- Settles O51, by the bay's state and the cutoff condition before and after. -/
theorem bayProfileStores : Obligations.BayProfileStores := by
  intro s tag b pairs x t f bad last clamps listed
  refine ⟨fun hs => ?_, fun hl hp hs hn hbad hh => ⟨(applyPairs x.profile pairs).profile, ?_⟩⟩
  · have hr : readProfile (profileBody b []) = some (b.byte, []) :=
      readProfile_body b (pairs := []) (Nat.zero_le _) fun q hq => by cases hq
    refine congrArg Host.Outcome.next (bay_answers (b := b) (g := bayProfile []) hs rfl ?_ bayProfile_nil)
    rw [hr]
    exact congrFun (withBay_byte b _) _
  · intro cut ids gives
    have he (u : State) : withFields (readProfile f.body) (fun y => withBay y.1 (bayProfile y.2)) u =
        onBayReply b (bayProfile pairs) u := by
      rw [readProfile_body b hl hp]
      exact congrFun (withBay_byte b _) u
    have hbad' : ¬ pairs.any pairInvalid = true := by
      simpa only [List.any_eq_true, pairInvalid_iff] using hbad
    have hvalid : ∀ q ∈ pairs, ¬ pairInvalid q = true := fun q hq h =>
      hbad' (List.any_eq_true.2 ⟨q, hq, h⟩)
    have hids : (applyPairs x.profile pairs).clamped = ids := applyPairs_clamped hvalid
    have give {y : Bay} {frames : List EventFrame} {records : List OutRecord}
        (hst : x.ctrl.state.takesProfile = true) (h4 : x.ctrl.state = .offline ∨ ∀ q ∈ pairs, q.1 ≠ 4)
        (hset : setProfile (applyPairs x.profile pairs).profile (s.ctx b) = ⟨b, y, frames, records, []⟩) :
        gives y frames records := by
      refine congrArg Host.Outcome.next (bay_grants hs rfl (he _) (notes := []) ?_)
      rw [bayProfile_stores (c := s.ctx b) hbad' hn hst h4]
      exact congrArg₂ Prod.mk hset (by rw [show (s.ctx b).bay.profile = x.profile from rfl, hids]; rfl)
    refine ⟨fun id hid h33 => applyPairs_values hvalid hid h33, applyPairs_cutoff hvalid hh, fun hst hc ht => ?_,
      fun hst h4 ha => ?_⟩
    · exact give (by simp [hst, BayState.takesProfile]) (.inl hst) (setProfile_offline _ hst hc ht)
    · intro hold cutoff temp events before now y frames park out
      have htakes : x.ctrl.state.takesProfile = true := by
        rcases hst with h | h <;> simp [h, BayState.takesProfile]
      have hno4 : ∀ q ∈ pairs, q.1 ≠ 4 := fun q hq hq4 => by
        have hmem : q ∈ pairs.filter fun q => decide (q.1 = 4) := List.mem_filter.2 ⟨hq, by simpa using hq4⟩
        have hnil : (pairs.filter fun q => decide (q.1 = 4)) = [] :=
          List.getLast?_eq_none_iff.1 (Option.map_eq_none_iff.1 h4)
        rw [hnil] at hmem
        cases hmem
      have hbefore : cutoffPresent x.profile x.thermal = true ↔ before := cutoffPresent_iff _ _
      have hnow : cutoffPresent (applyPairs x.profile pairs).profile
          (x.reprofiled (applyPairs x.profile pairs).profile).thermal = true ↔ now := cutoffPresent_iff _ _
      have hout : restOutput (applyPairs x.profile pairs).profile x.ctrl.command = out := restOutput_eq _ _
      have hpark : parkOutput (applyPairs x.profile pairs).profile = park := clampSym_eq _ _
      refine ⟨fun hf => give htakes (.inr hno4) ?_, fun hi hn => give htakes (.inr hno4) ?_,
        fun hi hb hn hsel => give htakes (.inr hno4) ?_⟩
      · rw [setProfile_fault _ ha hf, ← hpark]
        rfl
      · rw [setProfile_idle_stays _ ha hi ?_, ← hout]
        · rfl
        · exact hn.imp hbefore.2 fun hn => Bool.eq_false_iff.2 fun h => hn (hnow.1 h)
      · rw [setProfile_idle_rises _ ha hi (Bool.eq_false_iff.2 fun h => hb (hbefore.1 h)) (hnow.2 hn) hsel, ← hpark]
        rfl

end Sys2Proof.Machine

namespace Sys2Proof.Machine

/-! SUPPORT. STATUS (R171 to R173): the mask, the codes of the enumerations by their places, the groups of the
reply, and statement O59. -/

/-! ### The mask (R171, R173) -/

theorem readStatus_body (b : BayIx) {mask : Nat} (h : mask < 16777216) :
    readStatus (statusBody b mask) = some (b.byte, mask) := by
  have e : leNat (leBytes 3 (mask : Int)) = mask := leNat_leBytes_of_lt (by omega)
  simp only [leBytes] at e
  simp only [statusBody, readStatus, leBytes, e]

/-- A mask is invalid when it names one of bits 18 to 22. -/
theorem maskInvalid_iff (mask : Nat) :
    maskInvalid mask = true ↔ ∃ k, 18 ≤ k ∧ k ≤ 22 ∧ mask.testBit k = true := by
  have hbit (i : Nat) : (mask / 2 ^ 18 % 2 ^ 5).testBit i = (decide (i < 5) && mask.testBit (18 + i)) := by
    rw [Nat.testBit_mod_two_pow, Nat.testBit_div_two_pow, Nat.add_comm]
  rw [maskInvalid, bne_iff_ne]
  constructor
  · intro h
    obtain ⟨i, hi⟩ := Nat.exists_testBit_of_ne_zero (x := mask / 2 ^ 18 % 2 ^ 5) h
    rw [hbit, Bool.and_eq_true, decide_eq_true_eq] at hi
    exact ⟨18 + i, by omega, by omega, hi.2⟩
  · rintro ⟨k, h1, h2, hk⟩ h0
    have := hbit (k - 18)
    rw [show mask / 2 ^ 18 % 2 ^ 5 = 0 from h0, Nat.zero_testBit, show 18 + (k - 18) = k by omega, hk] at this
    simp at this
    omega

/-- The part once STATUS has cleared the flags that a valid mask names (R173). -/
theorem statusOf_state (b : BayIx) {mask : Nat} (hm : ¬ maskInvalid mask = true) (s : State) :
    statusOf b mask s = ({ s with
      bays := s.bays.set b { s.bays.get b with unit := (s.bays.get b).unit.clearFlags mask }
      events := { s.events with overflow := s.events.overflow && !mask.testBit 23 } },
      .ok, statusReply s.events (s.ctx b)) := by
  have hc : commit ((s.ctx b).setUnit ((s.ctx b).bay.unit.clearFlags mask)) s =
      { s with bays := s.bays.set b { s.bays.get b with unit := (s.bays.get b).unit.clearFlags mask } } :=
    leaves_silent s b _
  rw [statusOf, if_neg hm]
  simp only [onBayReply, statusOfBay, hc, State.clearOverflow, maskOverflow]
  cases mask.testBit 23
  · simp
  · simp

/-! ### Codes by place (R184) -/

theorem BayState.code_eq (st : BayState) :
    st.code = [BayState.offline, .idle, .acquire, .follow, .sweep, .held, .fault].idxOf st := by
  cases st <;> rfl

theorem Quadrant.code_eq (q : Quadrant) : q.code = [Quadrant.one, .two, .three, .four].idxOf q := by
  cases q <;> rfl

theorem SweepOutcome.code_eq (o : SweepOutcome) : o.code =
    [SweepOutcome.complete, .aborted, .refFailed, .lostServo, .faulted, .poweredOff].idxOf o := by
  cases o <;> rfl

theorem StepOutcome.code_eq (o : StepOutcome) :
    o.code = [StepOutcome.written, .skipped, .discarded].idxOf o := by
  cases o <;> rfl

theorem BasePlan.code_eq (p : BasePlan) : p.code = [BasePlan.standing, .finished, .lost].idxOf p := by
  cases p <;> rfl

theorem VisitKind.code_eq (k : VisitKind) :
    k.code = [VisitKind.opening, .onTrigger, .closing, .planned].idxOf k := by
  cases k <;> rfl

/-! ### Items of the reply (R185) -/

theorem leBytes_four (n : Int) : leBytes 4 n = leBytes 2 n ++ leBytes 2 (n / 65536) := by
  have h1 : n / 256 / 256 = n / 65536 := by omega
  simp only [leBytes, h1, List.cons_append, List.nil_append]

theorem optNat_eq (v : Option Nat) : optNat v = v.map fun n => (n : Int) := by
  cases v <;> rfl

theorem seqBytes_eq (v : Option Nat) : seqBytes v = leBytes 2 (v.getD 0 : Nat) := by
  cases v <;> rfl

/-- The settle and acquisition intents as a byte (R41, R67). -/
theorem intentByte_eq (st : BayState) (i : Intent) : byte1 (if st = .acquire then i.code else 0) =
    leBytes 1 (if st = .acquire ∧ i = .sweep then 1 else 0) := by
  by_cases h : st = .acquire
  · cases i <;> simp [h, Intent.code, byte1]
  · simp [h, byte1]

theorem following_iff (st : BayState) : st.following = true ↔ st = .follow ∨ st = .sweep ∨ st = .held := by
  cases st <;> simp [BayState.following]

/-- The hold-cause set as a sum of its bits (R145). -/
theorem Holds.bytes_eq (h : Holds) : h.bytes = leBytes 1 ((if h.host = true then 1 else 0) +
    (if h.thermal = true then 2 else 0) + (if h.stale = true then 4 else 0) +
    (if h.faultLine = true then 8 else 0) + (if h.event = true then 16 else 0)) := by
  obtain ⟨a, b, c, d, e⟩ := h
  cases a <;> cases b <;> cases c <;> cases d <;> cases e <;> rfl

/-- The items of the Sweep group (R151). -/
theorem statusSweep_eq (c : Ctx) : statusSweep c = flagByte c.bay.sweep.active ++ leBytes 2 c.bay.sweep.number ++
    optBytes 1 (c.bay.sweep.lastOutcome.map fun a => (a.code : Int)) ++ c.bay.sweep.holds.bytes ++
    planBytes c.bay.sweep.plan ++ leBytes 1 c.bay.sweep.basePlan.code ++ jobBytes c.bay.sweep.work ++ phaseBytes c ++
    seqBytes (c.bay.sweep.work.bind fun w => w.seq) ++ seqBytes c.bay.sweep.lastSeq ++
    optBytes 1 (c.bay.sweep.probe.map fun a => (a.1 : Int)) ++ leBytes 1 c.bay.sweep.stack.length ++
    c.bay.sweep.stack.reverse.flatMap Plan.bytes ++ leBytes 1 c.bay.sweep.retry ++ leBytes 2 c.bay.sweep.measured ++
    leBytes 2 c.bay.sweep.skipped ++ leBytes 2 c.bay.sweep.lost ++
    optBytes 1 (c.bay.sweep.lastStep.map fun a => (a.code : Int)) := by
  unfold statusSweep
  simp only [Ctx.sweep_eq, byte1, byte2]
  generalize phaseBytes c = l
  cases c.bay.sweep.lastOutcome <;> cases c.bay.sweep.probe <;> cases c.bay.sweep.lastStep <;> rfl

/-- Settles O59: each group of the reply by its items, then the flags that the mask clears. -/
theorem statusReadsThenClears : Obligations.StatusReadsThenClears := by
  intro s tag b mask x f one two four yes opt absent bay slip position intake origin plan job place scan limit window
    phase held bit sweep pattern thermal levels events reply hm hs
  have he (u : State) : statusEffect f.body u = statusOf b mask u := by
    rw [statusEffect, readStatus_body b hm]
    simp only [withFields, bayOfByte_byte]
  have h1 : one = leBytes 1 := rfl
  have h2 : two = leBytes 2 := rfl
  have h4 : four = leBytes 4 := funext fun n => (leBytes_four n).symm
  have hy : yes = flagByte := funext fun v => by cases v <;> rfl
  have ho (n : Nat) (v : Option Int) : opt (leBytes n) v = optBytes n v := by cases v <;> rfl
  have ha (v : Option Int) : absent (-32768) v = tempBytes v := by cases v <;> rfl
  have hslip (v : Option SlipCapture) : slip v = slipBytes v := by
    cases v
    · rfl
    · simp only [slip, h2, h4]
      rfl
  have horigin : origin = Plan.bytes := funext fun a => by cases a <;> rfl
  have hbay : statusBay (s.ctx b) = bay := by
    simp only [bay, h1, h2, h4, hy, ho, statusBay, BayState.code_eq, intentByte_eq, optNat_eq]
    rfl
  have hposition : statusPosition x.counter = position := by
    simp only [position, h1, h4, hy, ho, hslip, statusPosition]
    cases x.counter.qp with
    | none => rfl
    | some q => cases q <;> rfl
  have hintake : statusIntake (s.ctx b) = intake := by
    have ht : (lossThreshold x.profile : Int) = if x.profile.lossMode = .normal then 24 else 1536 := by
      unfold lossThreshold
      cases x.profile.lossMode <;> rfl
    simp only [intake, h1, h2, ← ht, statusIntake, following_iff]
    rfl
  have hplan : planBytes x.sweep.plan = plan := by
    simp only [plan, horigin]
    cases x.sweep.plan with
    | none => rfl
    | some a => cases a <;> rfl
  have hjob : jobBytes x.sweep.work = job := by
    simp only [job, h1, ← VisitKind.code_eq]
    cases x.sweep.work with
    | none => rfl
    | some w => cases w.job <;> rfl
  have hplace : x.sweep.work.bind place = optNat (x.sweep.work.bind Work.phaseCode) := by
    cases x.sweep.work with
    | none => rfl
    | some w =>
      simp only [Option.bind_some, place, Work.phaseCode]
      cases w.job <;> cases w.phase <;> rfl
  have hscan : x.sweep.work.bind scan = optNat (x.sweep.work.bind fun w => w.phase.scan) := by
    cases x.sweep.work with
    | none => rfl
    | some w =>
      simp only [Option.bind_some, scan]
      cases w.phase <;> rfl
  have hlimit : x.sweep.work.bind limit =
      optNat (x.sweep.work.bind fun w => if w.phase.limited then some x.sweep.phaseLimit else none) := by
    cases x.sweep.work with
    | none => rfl
    | some w =>
      simp only [Option.bind_some, limit]
      cases w.phase <;> rfl
  have hwindow : windowBytes x.meas.window = window := by
    simp only [window, h1, h2]
    cases x.meas.window <;> rfl
  have hphase : phaseBytes (s.ctx b) = phase := by
    simp only [phase, h1, h2, ho, hplace, hscan, hlimit, ← hwindow, phaseBytes]
    have hlen : byte1 (match x.sweep.work with
        | some w => w.results.length
        | none => 0) = leBytes 1 (match x.sweep.work with
        | some w => (w.results.length : Int)
        | none => 0) := by
      cases x.sweep.work <;> rfl
    refine (congrArg (fun l => _ ++ _ ++ _ ++ l ++ _) hlen).trans rfl
  have hheld : seqBytes (x.sweep.work.bind fun w => w.seq) = leBytes 2 held := by
    simp only [seqBytes_eq, held]
    cases x.sweep.work <;> rfl
  have hlast : seqBytes x.sweep.lastSeq = leBytes 2 (if x.sweep.seqNext = 0 then 0 else (x.sweep.seqNext - 1 : Nat)) := by
    rw [seqBytes_eq, Sweep.lastSeq]
    split_ifs <;> rfl
  have hsweep : statusSweep (s.ctx b) = sweep := by
    simp only [sweep, h1, h2, hy, ho, ← hplan, ← hjob, ← hphase, ← hheld, ← hlast, horigin, bit, ← Holds.bytes_eq,
      ← SweepOutcome.code_eq, ← StepOutcome.code_eq, ← BasePlan.code_eq]
    exact statusSweep_eq _
  have hpattern : statusPattern x.pattern = pattern := by
    simp only [pattern, h1, h2, hy, ho, statusPattern, checkerBytes]
    rw [optNat_eq]
    cases x.pattern.checker <;> rfl
  have hthermal : statusThermal x.thermal = thermal := by
    simp only [thermal, h2, hy, ha, statusThermal]
    rfl
  have hlevels : statusLevels (s.ctx b) = levels := by
    simp only [levels, hy, statusLevels]
    rfl
  have hevents : statusEvents x.unit s.events = events := by
    simp only [events, h1, hy, statusEvents]
    rfl
  have hreply : statusReply s.events (s.ctx b) = reply := by
    simp only [reply, ← hbay, ← hposition, ← hintake, ← hsweep, ← hpattern, ← hthermal, ← hlevels, ← hevents]
    rfl
  refine ⟨fun h => ?_, fun h => ?_⟩
  · refine congrArg Host.Outcome.next (request_answers hs rfl ((he _).trans ?_))
    exact if_pos ((maskInvalid_iff mask).2 h)
  · have hv : ¬ maskInvalid mask = true := fun h' => by
      obtain ⟨k, h1, h2, hk⟩ := (maskInvalid_iff mask).1 h'
      exact Bool.eq_false_iff.1 (h k h1 h2) hk
    refine congrArg Host.Outcome.next ((request_gives hs rfl ((he _).trans (statusOf_state b hv _))).trans ?_)
    exact congrArg (fun l => addAnswer _ ⟨0x50, tag, .ok, l, true⟩) hreply

end Sys2Proof.Machine

namespace Sys2Proof.Machine

/-! SUPPORT. The checker on the generator's own bits (R107, R111 to R113), and statement O15. -/

/-! ### The generator's bits -/

theorem genBits_add (m n : Nat) (r : BitVec 17) : (genBits (m + n) r).1 =
    (genBits m r).1 ++ (genBits n (genBits m r).2).1 ∧ (genBits (m + n) r).2 = (genBits n (genBits m r).2).2 := by
  induction m generalizing r with
  | zero => simp [genBits]
  | succ m ih =>
    obtain ⟨h1, h2⟩ := ih (shiftIn r (feedback r))
    rw [Nat.succ_add]
    simp only [genBits, h1, h2, List.cons_append, and_self]

theorem getLsbD_shiftIn (r : BitVec 17) (bit : Bool) (i : Nat) (h : i < 17) :
    (shiftIn r bit).getLsbD i = if i = 0 then bit else r.getLsbD (i - 1) := by
  unfold shiftIn
  cases i with
  | zero => simp
  | succ i => simp [h, ← BitVec.getLsbD_eq_getElem (show i < 17 by omega)]

/-- Two registers agree on their `k` most recent bits. -/
def agree (k : Nat) (a b : BitVec 17) : Prop := ∀ i, i < k → a.getLsbD i = b.getLsbD i

theorem agree_shiftIn {k : Nat} {a b : BitVec 17} (h : agree k a b) (hk : k < 17) (bit : Bool) :
    agree (k + 1) (shiftIn a bit) (shiftIn b bit) := by
  intro i hi
  rw [getLsbD_shiftIn _ _ _ (by omega), getLsbD_shiftIn _ _ _ (by omega)]
  split
  · rfl
  · exact h _ (by omega)

theorem eq_of_agree {a b : BitVec 17} (h : agree 17 a b) : a = b :=
  BitVec.eq_of_getLsbD_eq fun i hi => h i hi

/-! ### Hunting, checking and locked (R111 to R113) -/

/-- The first bits of a run, and the rest of it. -/
theorem feedBits_cons (bit : Bool) (bits : List Bool) (c : Ctx) :
    feedBits (bit :: bits) c = feedBits bits (feedBit c bit) := rfl

theorem feedBits_append (as bs : List Bool) (c : Ctx) : feedBits (as ++ bs) c = feedBits bs (feedBits as c) :=
  List.foldl_append

/-- The checker after its 17th bit: it checks, with `g` as its register (R111). -/
def Ctx.checking (c : Ctx) (g : BitVec 17) : Ctx :=
  c.setPattern { c.pattern with checker := .check, reg := g, sinceRestart := 17 }

/-- The checker as it locks, with `g` as its register (R111). -/
def Ctx.locking (c : Ctx) (g : BitVec 17) : Ctx :=
  c.setPattern { c.pattern with
    checker := .locked, reg := g, run := 32, winCompared := 0, winMismatches := 0 }

/-- After its 17th bit a hunting checker holds the generator's register (R111). -/
theorem feedBits_hunt {k : Nat} {c : Ctx} {g : BitVec 17} (hk : k < 17) (hc : c.pattern.checker = .hunt)
    (hs : c.pattern.sinceRestart = 16 - k) (ha : agree (16 - k) c.pattern.reg g) :
    feedBits (genBits (k + 1) g).1 c = c.checking (genBits (k + 1) g).2 := by
  induction k generalizing c g with
  | zero =>
    have hreg : shiftIn c.pattern.reg (feedback g) = shiftIn g (feedback g) := eq_of_agree (agree_shiftIn ha (by omega) _)
    simp only [genBits, feedBits, List.foldl_cons, List.foldl_nil, feedBit, hc, Pattern.huntBit, hs, hreg]
    rfl
  | succ k ih =>
    have hn : satInc Config.huntBits c.pattern.sinceRestart = 16 - k := by
      rw [hs, satInc, Config.huntBits, if_pos (by omega)]; omega
    have hstep : feedBit c (feedback g) = c.setPattern { c.pattern with
        reg := shiftIn c.pattern.reg (feedback g), sinceRestart := 16 - k, checker := .hunt } := by
      simp only [feedBit, hc, Pattern.huntBit, hn]
      rw [if_neg (by rw [Config.huntBits]; omega)]
    have hnext := agree_shiftIn ha (by omega) (feedback g)
    rw [show 16 - (k + 1) + 1 = 16 - k by omega] at hnext
    rw [show genBits (k + 1 + 1) g = (feedback g :: (genBits (k + 1) (shiftIn g (feedback g))).1,
      (genBits (k + 1) (shiftIn g (feedback g))).2) from rfl, feedBits_cons, hstep,
      ih (c := c.setPattern { c.pattern with
        reg := shiftIn c.pattern.reg (feedback g), sinceRestart := 16 - k, checker := .hunt })
        (by omega) rfl rfl hnext]
    rfl

/-- A checker that holds the generator's register locks at its 32nd bit (R111). -/
theorem feedBits_check {k : Nat} {c : Ctx} (hk : k < 32) (hc : c.pattern.checker = .check)
    (hr : c.pattern.run = 31 - k) :
    feedBits (genBits (k + 1) c.pattern.reg).1 c =
      c.locking (genBits (k + 1) c.pattern.reg).2 := by
  induction k generalizing c with
  | zero =>
    simp only [genBits, feedBits, List.foldl_cons, List.foldl_nil, feedBit, hc, Pattern.checkBit, hr]
    rfl
  | succ k ih =>
    have hstep : feedBit c (feedback c.pattern.reg) = c.setPattern { c.pattern with
        reg := shiftIn c.pattern.reg (feedback c.pattern.reg), run := 31 - k } := by
      simp only [feedBit, hc, Pattern.checkBit, if_true, hr]
      rw [show 31 - (k + 1) + 1 = 31 - k by omega, if_neg (by simp only [Config.lockRun]; omega)]
    rw [show genBits (k + 1 + 1) c.pattern.reg =
      (feedback c.pattern.reg :: (genBits (k + 1) (shiftIn c.pattern.reg (feedback c.pattern.reg))).1,
      (genBits (k + 1) (shiftIn c.pattern.reg (feedback c.pattern.reg))).2) from rfl, feedBits_cons, hstep]
    exact ih (c := c.setPattern { c.pattern with
      reg := shiftIn c.pattern.reg (feedback c.pattern.reg), run := 31 - k }) (by omega) hc rfl

/-- What a locked checker that has seen no mismatch keeps over a clean bit (R112, R113). -/
structure CleanRun (c d : Ctx) (n : Nat) : Prop where
  checker : d.pattern.checker = .locked
  window : d.pattern.winMismatches = 0
  compared : d.pattern.posCompared = c.pattern.posCompared + n
  mismatches : d.pattern.posMismatches = c.pattern.posMismatches
  running : d.pattern.running.mismatches = c.pattern.running.mismatches
  frames : d.frames = c.frames
  unit : d.bay.unit = c.bay.unit

/-- A clean bit at a locked checker is compared, and is no mismatch (R112, R113). -/
theorem lockedBit_clean {c : Ctx} (hc : c.pattern.checker = .locked) (hw : c.pattern.winMismatches = 0) :
    CleanRun c (lockedBit (feedback c.pattern.reg) c) 1 ∧
      (lockedBit (feedback c.pattern.reg) c).pattern.reg = shiftIn c.pattern.reg (feedback c.pattern.reg) := by
  have hm : (c.pattern.compareBit (feedback c.pattern.reg)).running.mismatches = c.pattern.running.mismatches := by
    simp [Pattern.compareBit]
  have hwin : (c.pattern.compareBit (feedback c.pattern.reg)).winMismatches = 0 := by
    simpa [Pattern.compareBit] using hw
  have hpos : (c.pattern.compareBit (feedback c.pattern.reg)).posMismatches = c.pattern.posMismatches := by
    simp [Pattern.compareBit]
  have hkept : ¬ (c.pattern.running.mismatches < 65535 ∧
      (c.pattern.compareBit (feedback c.pattern.reg)).running.mismatches = 65535) := by rw [hm]; omega
  have hlimit : ¬ Config.windowMismatchLimit ≤ (c.pattern.compareBit (feedback c.pattern.reg)).winMismatches := by
    rw [hwin]; decide
  unfold lockedBit
  simp only [if_neg hkept, Pattern.testWindow, if_neg hlimit]
  split
  · exact ⟨⟨hc, rfl, rfl, hpos, hm, rfl, rfl⟩, rfl⟩
  · exact ⟨⟨hc, hwin, rfl, hpos, hm, rfl, rfl⟩, rfl⟩

/-- A locked checker on the generator's bits (R112, R113). -/
theorem feedBits_locked {n : Nat} {c : Ctx} (hc : c.pattern.checker = .locked) (hw : c.pattern.winMismatches = 0) :
    CleanRun c (feedBits (genBits n c.pattern.reg).1 c) n := by
  induction n generalizing c with
  | zero => exact ⟨hc, hw, rfl, rfl, rfl, rfl, rfl⟩
  | succ n ih =>
    obtain ⟨hone, hreg⟩ := lockedBit_clean hc hw
    have hrest := ih hone.checker hone.window
    rw [hreg] at hrest
    have hstep : feedBit c (feedback c.pattern.reg) = lockedBit (feedback c.pattern.reg) c := by
      simp only [feedBit, hc]
    rw [show (genBits (n + 1) c.pattern.reg).1 = feedback c.pattern.reg ::
      (genBits n (shiftIn c.pattern.reg (feedback c.pattern.reg))).1 from rfl, feedBits_cons, hstep]
    exact ⟨hrest.checker, hrest.window, by rw [hrest.compared, hone.compared]; omega,
      hrest.mismatches.trans hone.mismatches, hrest.running.trans hone.running,
      hrest.frames.trans hone.frames, hrest.unit.trans hone.unit⟩

/-- Settles O15: 17 bits fill the register, 32 lock, and no later bit is a mismatch. -/
theorem cleanBitsLock : Obligations.CleanBitsLock := by
  unfold Obligations.CleanBitsLock
  intro r n c hn
  obtain ⟨m, rfl⟩ : ∃ m, n = 17 + (32 + m) := ⟨n - 49, by omega⟩
  rw [(genBits_add 17 (32 + m) r).1, (genBits_add 32 m _).1, feedBits_append, feedBits_append]
  intro d
  have hunt := feedBits_hunt (k := 16) (g := r)
    (c := c.setPattern { c.pattern.restart with posCompared := 0, posMismatches := 0 })
    (by omega) rfl rfl (fun i hi => absurd hi (by omega))
  have check := feedBits_check (k := 31)
    (c := (c.setPattern { c.pattern.restart with posCompared := 0, posMismatches := 0 }).checking
      (genBits 17 r).2) (by omega) rfl rfl
  have locked := feedBits_locked (n := m)
    (c := ((c.setPattern { c.pattern.restart with posCompared := 0, posMismatches := 0 }).checking
      (genBits 17 r).2).locking (genBits 32 (genBits 17 r).2).2) rfl rfl
  have hd : d = feedBits (genBits m (genBits 32 (genBits 17 r).2).2).1
      (((c.setPattern { c.pattern.restart with posCompared := 0, posMismatches := 0 }).checking
        (genBits 17 r).2).locking (genBits 32 (genBits 17 r).2).2) :=
    congrArg (feedBits _) ((congrArg (feedBits _) hunt).trans check)
  rw [hd]
  refine ⟨locked.checker, locked.compared.trans ?_, locked.mismatches, locked.running, locked.frames, locked.unit⟩
  show 0 + m = _
  omega

end Sys2Proof.Machine

namespace Sys2Proof.Machine

/-! SUPPORT. What a completion of the demodulator gives (R7, R8): the wedge's classification leaves all of a
bay but its counter, flags and hold causes, and statement O26. -/

/-! ### Classification leaves the rest of the bay -/

/-- `d` differs from `c` at most in the counter, the event unit, the hold causes and the frames offered. -/
def Ctx.countedTo (c d : Ctx) : Prop := ∃ k u h fr, d = { c with
  bay := { c.bay with counter := k, unit := u, sweep := { c.bay.sweep with holds := h } }
  frames := fr }

theorem countedTo_refl (c : Ctx) : c.countedTo c := ⟨_, _, _, _, rfl⟩

theorem countedTo_trans {c d e : Ctx} (h : c.countedTo d) (h' : d.countedTo e) : c.countedTo e := by
  obtain ⟨_, _, _, _, rfl⟩ := h
  obtain ⟨_, _, _, _, rfl⟩ := h'
  exact ⟨_, _, _, _, rfl⟩

theorem countedTo_setCounter {c d : Ctx} (h : c.countedTo d) (k : Counter) : c.countedTo (d.setCounter k) := by
  obtain ⟨_, _, _, _, rfl⟩ := h
  exact ⟨_, _, _, _, rfl⟩

theorem countedTo_raise {c d : Ctx} (h : c.countedTo d) (e : Details) : c.countedTo (raise e d) := by
  refine countedTo_trans h ?_
  rw [raise_eq, Bay.raising]
  split
  · exact ⟨_, _, _, _, rfl⟩
  · exact ⟨_, _, _, _, rfl⟩

theorem countedTo_resync {c d : Ctx} (h : c.countedTo d) (head track : Nat) (q : Quadrant) :
    c.countedTo (resync head track q d) := by
  unfold resync
  split
  · exact countedTo_setCounter (countedTo_raise (countedTo_setCounter h _) _) _
  · exact countedTo_setCounter h _

theorem countedTo_stepCounter (c : Ctx) (head : Nat) (q : Quadrant) : c.countedTo (stepCounter head q c) := by
  unfold stepCounter
  simp only
  split
  · exact countedTo_raise (countedTo_setCounter (countedTo_refl c) _) _
  · exact countedTo_setCounter (countedTo_refl c) _

theorem countedTo_placeWedge (c : Ctx) (head : Nat) (y : WedgeSync) : c.countedTo (placeWedge head y c).1 := by
  unfold placeWedge
  simp only
  split
  · exact countedTo_resync (countedTo_stepCounter c _ _) _ _ _
  · split
    · exact countedTo_stepCounter c _ _
    · exact countedTo_stepCounter c _ _

/-- The classification of a wedge changes the counter, the flags and the hold causes at most (R4 to R6). -/
theorem countedTo_classify (w : Wedge) (c : Ctx) : c.countedTo (classify w c).1 := by
  unfold classify
  split
  · exact countedTo_refl c
  · split
    · exact countedTo_refl c
    · split
      · exact countedTo_refl c
      · exact countedTo_placeWedge c _ _

/-- What a completion's classification keeps of the bay as the part holds it. -/
structure Classified (s : State) (b : BayIx) (c : Ctx) : Prop where
  id : c.id = b
  records : c.records = []
  notes : c.notes = []
  profile : c.bay.profile = (s.bays.get b).profile
  intake : c.bay.intake = (s.bays.get b).intake
  acq : c.bay.acq = (s.bays.get b).acq
  ctrl : c.bay.ctrl = (s.bays.get b).ctrl
  map : c.bay.map = (s.bays.get b).map
  zones : c.bay.zones = (s.bays.get b).zones
  store : c.bay.store = (s.bays.get b).store
  meas : c.bay.meas = (s.bays.get b).meas
  pattern : c.bay.pattern = (s.bays.get b).pattern
  thermal : c.bay.thermal = (s.bays.get b).thermal
  sweep : { c.bay.sweep with holds := (s.bays.get b).sweep.holds } = (s.bays.get b).sweep

theorem classified_classify (s : State) (b : BayIx) (w : Wedge) : Classified s b (classify w (s.ctx b)).1 := by
  obtain ⟨_, _, _, _, h⟩ := countedTo_classify w (s.ctx b)
  rw [h]
  exact ⟨rfl, rfl, rfl, rfl, rfl, rfl, rfl, rfl, rfl, rfl, rfl, rfl, rfl, rfl⟩

/-! ### A completion (R8) -/

section
variable {s : State} {b : BayIx} {w : Wedge} {d : Ctx} {x : Bay} {frames : List EventFrame}
  {records : List OutRecord} {notes : List Note}

theorem offline_eq_false (h : (s.bays.get b).ctrl.state ≠ .offline) : s.offline b = false := by
  simpa [State.offline] using h

/-- A completion in a powered bay leaves what the delivered sample makes of the bay. -/
theorem demodComplete_leaves (hbusy : s.demod.busy = some (b, w)) (hon : (s.bays.get b).ctrl.state ≠ .offline)
    (h : completeWedge w (s.ctx b) = ⟨b, x, frames, records, notes⟩) :
    demodComplete s = ({ s with demod := ⟨none, s.demod.lastServed⟩ } : State).leaves b x frames records := by
  unfold demodComplete
  rw [hbusy]
  simp only [offline_eq_false hon, Bool.false_eq_true, if_false]
  have h' : completeWedge w (s.freeDemod.ctx b) = ⟨b, x, frames, records, notes⟩ := h
  exact onBay_leaves _ (congrArg Ctx.id h') (congrArg Ctx.bay h') (congrArg Ctx.frames h') (congrArg Ctx.records h')

/-- The row of a completion's event runs the completion that brings it about (log entry 6). -/
theorem completeFor_leaves {n : Note} (hbusy : s.demod.busy = some (b, w))
    (hon : (s.bays.get b).ctrl.state ≠ .offline)
    (h : completeWedge w (s.ctx b) = ⟨b, x, frames, records, notes⟩) (hn : n ∈ notes) :
    completeFor n b s =
      ({ s with demod := ⟨none, s.demod.lastServed⟩ } : State).leaves b x frames records := by
  rw [completeFor, if_pos, demodComplete_leaves hbusy hon h]
  simpa [brings, hbusy, offline_eq_false hon, h] using hn
end

/-! ### The take (R7, R29) and O26 -/

theorem demodTake_stays {s : State} (h : s.demod.busy ≠ none ∨ ∀ b, s.offersWedge b = false) : demodTake s = s := by
  unfold demodTake
  split
  · rename_i b hbusy hfind
    rcases h with h | h
    · exact absurd hbusy h
    · exact absurd (List.find?_some hfind) (by simp [h b])
  · rfl

/-- The first bay of the search order that offers a wedge is found. -/
theorem find_offers {s : State} {l pre post : List BayIx} {b : BayIx} (hl : l = pre ++ b :: post)
    (hpre : ∀ a ∈ pre, s.offersWedge a = false) (hb : s.offersWedge b = true) : l.find? s.offersWedge = some b := by
  subst hl
  rw [List.find?_append, List.find?_eq_none.2 (fun a ha => by simp [hpre a ha]), List.find?_cons_of_pos hb]
  rfl

theorem offersWedge_eq_false {s : State} {a : BayIx}
    (h : (s.bays.get a).ctrl.state = .offline ∨ (s.bays.get a).intake.queue = []) : s.offersWedge a = false := by
  rcases h with h | h <;> simp [State.offersWedge, State.offline, h]

/-- The sample of a bay in IDLE or FAULT past the switch wait sends its DRIVE record and no more (R58, R66). -/
theorem handleSample_rest {y : Sample} {c : Ctx} (hw : c.ctrl.switchWait = 0)
    (hs : c.ctrl.state = .idle ∨ c.ctrl.state = .fault) : handleSample y c = c.send (.drive c.ctrl.command) := by
  have hacts : sampleActs y c = c := by
    rw [sampleActs, if_neg (by omega)]
    rcases hs with hs | hs <;> rw [hs]
  simp only [handleSample, hacts]

/-- Settles O26, by the search order and by what the classification keeps. -/
theorem demodTakesAndCompletes : Obligations.DemodTakesAndCompletes := by
  unfold Obligations.DemodTakesAndCompletes
  refine ⟨fun s h => congrArg Host.Outcome.next (demodTake_stays h), ?_, ?_⟩
  · intro s pre post b w rest l x hbusy horder hpre hon hq
    refine congrArg Host.Outcome.next ?_
    have hb : s.offersWedge b = true := by
      simp [State.offersWedge, offline_eq_false hon, show (s.bays.get b).intake.queue = w :: rest from hq]
    have hfind := find_offers horder (fun a ha => offersWedge_eq_false (hpre a ha)) hb
    unfold demodTake
    rw [hbusy, show (searchOrder s.demod.lastServed).find? s.offersWedge = some b from hfind]
    simp only [show (s.bays.get b).intake.queue = w :: rest from hq, takeFrom, Bay.takeOldest, warnAfterTake,
      warnThreshold]
    simp [x, bne, Bool.beq_eq_decide_eq]
  · intro s b w x c free
    refine ⟨fun hbusy => ?_, fun hbusy hoff => ?_, fun hbusy hrest hwait => ?_⟩
    · simp [exec, execDemodComplete, demodComplete, hbusy]
    · have hoff' : s.offline b = true := by simpa [State.offline] using hoff
      refine congrArg Host.Outcome.next ?_
      simp only [demodComplete, hbusy, hoff', if_true]
      rfl
    · have hon : (s.bays.get b).ctrl.state ≠ .offline := by
        rcases hrest with h | h <;> exact fun h' => by simp [x, h'] at h
      have kept := classified_classify s b w
      refine congrArg Host.Outcome.next (demodComplete_leaves (notes := []) hbusy hon ?_)
      rw [completeWedge, handleSample_rest (by rw [← hwait]; exact congrArg Ctrl.switchWait kept.ctrl)
        (by rw [show (classify w (s.ctx b)).1.ctrl = x.ctrl from kept.ctrl]; exact hrest)]
      simp only [Ctx.send, show (classify w (s.ctx b)).1.ctrl = x.ctrl from kept.ctrl]
      rw [kept.id, kept.records, kept.notes]
      rfl

end Sys2Proof.Machine

namespace Sys2Proof.Machine

/-! SUPPORT. Rounding to the nearest integer, the window's sums over any list of samples (R86 to R88), and
statement O36. -/

/-! ### Rounding to the nearest integer, halves away from 0 -/

/-- The nearest integer's multiple of a non-negative number lies within half a divisor, a half above it. -/
theorem roundHalfAway_nonneg {a : Int} {n : Nat} (ha : 0 ≤ a) (hn : 0 < n) :
    2 * (n * roundHalfAway a n) ≤ 2 * a + n ∧ 2 * a < 2 * (n * roundHalfAway a n) + n := by
  have hpos : (0 : Int) < 2 * n := by omega
  have low := Int.ediv_mul_le (2 * a + n) (ne_of_gt hpos)
  have high := Int.lt_ediv_add_one_mul_self (2 * a + n) hpos
  have hq : (2 * a + n) / (2 * n : Int) * (2 * n) = 2 * (n * ((2 * a + n) / (2 * n : Int))) := by ring
  rw [add_mul, one_mul, hq] at high
  rw [hq] at low
  rw [roundHalfAway, if_pos ha]
  omega

theorem roundHalfAway_neg {a : Int} {n : Nat} (ha : a < 0) :
    roundHalfAway a n = -roundHalfAway (-a) n := by
  rw [roundHalfAway, roundHalfAway, if_neg (by omega), if_pos (by omega)]

/-- The nearest integer is within half a divisor, and at half of one it is the farther from 0. -/
theorem roundHalfAway_near {a : Int} {n : Nat} (hn : 0 < n) :
    2 * (a - n * roundHalfAway a n).natAbs ≤ n ∧
      (2 * (a - n * roundHalfAway a n).natAbs = n → a.natAbs ≤ (n * roundHalfAway a n).natAbs) := by
  by_cases ha : 0 ≤ a
  · obtain ⟨low, high⟩ := roundHalfAway_nonneg ha hn
    generalize (n : Int) * roundHalfAway a n = m at *
    omega
  · obtain ⟨low, high⟩ := roundHalfAway_nonneg (a := -a) (by omega) hn
    rw [roundHalfAway_neg (by omega), mul_neg]
    generalize (n : Int) * roundHalfAway (-a) n = m at *
    omega

/-- The nearest integer to a natural number's quotient, as a natural number. -/
theorem roundHalfAway_nat (a : Nat) {n : Nat} (hn : 0 < n) :
    2 * a < n * (2 * (roundHalfAway a n).toNat + 1) ∧ n * (2 * (roundHalfAway a n).toNat) ≤ 2 * a + n := by
  obtain ⟨low, high⟩ := roundHalfAway_nonneg (a := a) (Int.natCast_nonneg a) hn
  have hm : 0 ≤ roundHalfAway a n := by
    rw [roundHalfAway, if_pos (Int.natCast_nonneg a)]
    exact Int.ediv_nonneg (by omega) (by omega)
  generalize roundHalfAway a n = m at *
  lift m to Nat using hm
  rw [Int.toNat_natCast]
  have h1 : n * (2 * m + 1) = 2 * (n * m) + n := by ring
  have h2 : n * (2 * m) = 2 * (n * m) := by ring
  rw [h1, h2]
  norm_cast at low high

/-! ### The window over a list of samples (R86, R87) -/

/-- The position and the burst sum that a window of `head` collects of a sample. -/
def takenOf (head : Nat) (y : Sample) : Option (Int × Nat) :=
  if y.head = head ∧ y.cls = .position then y.position.map fun pos => (pos, y.burstSum.getD 0) else none

/-- The extremes of the positions taken. -/
def spans (taken : List (Int × Nat)) : Option (Int × Int) → Prop
  | none => taken = []
  | some (lo, hi) => (∃ a ∈ taken, a.1 = lo) ∧ (∃ a ∈ taken, a.1 = hi) ∧ ∀ q ∈ taken, lo ≤ q.1 ∧ q.1 ≤ hi

theorem spans_widen {taken : List (Int × Nat)} {e : Option (Int × Int)} (h : spans taken e) (q : Int × Nat) :
    spans (taken ++ [q]) (some (widen e q.1)) := by
  cases e with
  | none => simp [show taken = [] from h, spans, widen]
  | some r =>
    obtain ⟨⟨a, ha, halo⟩, ⟨b, hb, hbhi⟩, hall⟩ := h
    have hab := hall a ha
    refine ⟨?_, ?_, ?_⟩
    · by_cases hq : q.1 < r.1
      · exact ⟨q, by simp, by simp [hq]⟩
      · exact ⟨a, by simp [ha], by simp [hq, halo]⟩
    · by_cases hq : r.2 < q.1
      · exact ⟨q, by simp, by simp [hq]⟩
      · exact ⟨b, by simp [hb], by simp [hq, hbhi]⟩
    · intro p hp
      rcases List.mem_append.1 hp with hp | hp
      · have := hall p hp
        constructor
        · show (if q.1 < r.1 then q.1 else r.1) ≤ p.1
          split <;> omega
        · show p.1 ≤ (if r.2 < q.1 then q.1 else r.2)
          split <;> omega
      · rw [List.mem_singleton.1 hp]
        constructor
        · show (if q.1 < r.1 then q.1 else r.1) ≤ q.1
          split <;> omega
        · show q.1 ≤ (if r.2 < q.1 then q.1 else r.2)
          split <;> omega

/-- A window that `samples` have reached, `taken` being what it collected. -/
structure Window.Holds (w : Window) (head size : Nat) (samples : List Sample) (taken : List (Int × Nat)) : Prop where
  onHead : w.head = head
  ofSize : w.size = size
  delivered : w.delivered = samples.length
  collected : w.collected = taken.length
  sum : w.sum = (taken.map Prod.fst).sum
  bursts : w.bursts = (taken.map Prod.snd).sum
  extremes : spans taken w.extremes
  syncSeen : w.syncSeen = true ↔ ∃ y ∈ samples, y.head = head ∧ y.cls ≠ .noSync ∧ y.cls ≠ .foreign

/-- One more sample reaches the window. -/
theorem Window.holds_collect {w : Window} {head size : Nat} {samples : List Sample} {taken : List (Int × Nat)}
    (h : w.Holds head size samples taken) {y : Sample} (hy : y.cls = .position → y.position ≠ none) :
    (w.deliver.collect y).Holds head size (samples ++ [y]) (taken ++ (takenOf head y).toList) := by
  have hdelivered : (w.deliver.collect y).delivered = (samples ++ [y]).length := by simp [h.delivered]
  have hhead : (w.deliver.collect y).head = head := by simp [h.onHead]
  have hsize : (w.deliver.collect y).size = size := by simp [h.ofSize]
  by_cases hc : y.head = head ∧ y.cls = .position
  · obtain ⟨pos, hpos⟩ := Option.ne_none_iff_exists'.1 (hy hc.2)
    have htaken : takenOf head y = some (pos, y.burstSum.getD 0) := by simp [takenOf, hc, hpos]
    have hcollect := Window.collect_position w.deliver y (hc.1.trans h.onHead.symm) hc.2 hpos
    rw [htaken]
    refine ⟨hhead, hsize, hdelivered, ?_, ?_, ?_, ?_, ?_⟩
    · rw [hcollect]; simp [h.collected]
    · rw [hcollect]; simp [Window.deliver, h.sum]
    · rw [hcollect]; simp [Window.deliver, h.bursts]
    · rw [hcollect]; exact spans_widen h.extremes _
    · rw [hcollect]; simp [hc]
  · have htaken : takenOf head y = none := by simp [takenOf, hc]
    rw [htaken, Option.toList_none, List.append_nil]
    have hother : y.head ≠ w.deliver.head ∨ y.cls ≠ .position := by
      simp only [Window.deliver_head, h.onHead]
      exact not_and_or.1 hc
    obtain ⟨seen, hcollect⟩ := Window.collect_other w.deliver y hother
    have hseen : (w.deliver.collect y).syncSeen =
        (w.syncSeen || (y.head == head && (y.cls == .weak || y.cls == .unplaced))) := by
      unfold Window.collect
      by_cases hh : y.head = head
      · rw [if_neg (by simp [hh, h.onHead])]
        cases hcls : y.cls
        case position => exact absurd ⟨hh, hcls⟩ hc
        all_goals simp [hh, Window.deliver]
      · rw [if_pos (by simpa [h.onHead] using hh)]
        simp [hh, Window.deliver]
    refine ⟨hhead, hsize, hdelivered, ?_, ?_, ?_, ?_, ?_⟩
    · rw [hcollect]; exact h.collected
    · rw [hcollect]; exact h.sum
    · rw [hcollect]; exact h.bursts
    · rw [hcollect]; exact h.extremes
    · have hcls : y.head = head → ((y.cls = .weak ∨ y.cls = .unplaced) ↔ (y.cls ≠ .noSync ∧ y.cls ≠ .foreign)) := by
        intro hh
        cases hcls : y.cls
        case position => exact absurd ⟨hh, hcls⟩ hc
        all_goals simp
      rw [hseen]
      simp only [Bool.or_eq_true, Bool.and_eq_true, beq_iff_eq, h.syncSeen, List.mem_append, List.mem_singleton]
      constructor
      · rintro (⟨z, hz, hzs⟩ | ⟨hh, hs⟩)
        · exact ⟨z, .inl hz, hzs⟩
        · exact ⟨y, .inr rfl, hh, (hcls hh).1 hs⟩
      · rintro ⟨z, hz | rfl, hh, hs⟩
        · exact .inl ⟨z, hz, hh, hs⟩
        · exact .inr ⟨hh, (hcls hh).2 hs⟩

/-- The window that any list of samples has reached. -/
theorem Window.holds_foldl (head size : Nat) (samples : List Sample)
    (h : ∀ y ∈ samples, y.cls = .position → y.position ≠ none) :
    (samples.foldl (fun (w : Window) y => w.deliver.collect y) ⟨head, size, 0, 0, none, 0, 0, false⟩).Holds
      head size samples (samples.filterMap (takenOf head)) := by
  induction samples using List.reverseRecOn with
  | nil => exact ⟨rfl, rfl, rfl, rfl, rfl, rfl, rfl, by simp⟩
  | append_singleton ys y ih =>
    rw [List.foldl_append, List.filterMap_append]
    have hstep := Window.holds_collect (ih fun z hz => h z (by simp [hz])) (h y (by simp))
    have hsingle : [y].filterMap (takenOf head) = (takenOf head y).toList := by
      cases hy : takenOf head y <;> simp [hy]
    rw [hsingle]
    exact hstep

/-- Settles O36, by the window's sums over the list and the rounding of a quotient. -/
theorem windowsCollect : Obligations.WindowsCollect := by
  unfold Obligations.WindowsCollect
  intro head size samples win taken r sum bursts hpos
  have holds : win.Holds head size samples taken := Window.holds_foldl head size samples hpos
  refine ⟨holds.onHead, holds.ofSize, holds.delivered, holds.collected, holds.sum, holds.bursts, holds.syncSeen,
    fun hsize hfull => ?_⟩
  have hmean : r.mean = roundHalfAway sum size := by
    rw [show r.mean = roundHalfAway win.sum win.size from rfl, holds.sum, holds.ofSize]
  have hamp : r.amplitude = (roundHalfAway bursts size).toNat := by
    rw [show r.amplitude = (roundHalfAway win.bursts win.size).toNat from rfl, holds.bursts, holds.ofSize]
  rw [hmean, hamp]
  refine ⟨roundHalfAway_near hsize, (roundHalfAway_nat bursts hsize).1, (roundHalfAway_nat bursts hsize).2, ?_⟩
  have hext := holds.extremes
  cases he : win.extremes with
  | none =>
    rw [he] at hext
    rw [show taken = [] from hext] at hfull
    exact absurd hfull (by simp; omega)
  | some e =>
    rw [he] at hext
    obtain ⟨⟨lo, hlo, hlo'⟩, ⟨hi, hhi, hhi'⟩, hall⟩ := hext
    refine ⟨lo, hlo, hi, hhi, fun q hq => by rw [hlo', hhi']; exact hall q hq, ?_⟩
    rw [hlo', hhi', show r.spread = (match win.extremes with
      | some (lo, hi) => min 65535 (hi - lo).toNat
      | none => 0) from rfl, he]

end Sys2Proof.Machine

namespace Sys2Proof.Machine

/-! SUPPORT. A tick of the time base (R153): the order it takes reaches each timer once, a timer that does not
expire counts, and what expiring does (R35, R155); statement O16. -/

/-! ### The order of a tick (R153) -/

theorem mem_foldl_addOnce {l acc : List TimerId} {t : TimerId} :
    t ∈ l.foldl addOnce acc ↔ t ∈ acc ∨ t ∈ l := by
  induction l generalizing acc with
  | nil => simp
  | cons a l ih =>
    have ha : t ∈ addOnce acc a ↔ t ∈ acc ∨ t = a := by
      unfold addOnce
      split
      · rename_i hmem
        have hmem' : a ∈ acc := by simpa using hmem
        exact ⟨.inl, fun h => h.elim id fun e => e ▸ hmem'⟩
      · simp
    rw [List.foldl_cons, ih, ha, List.mem_cons, or_assoc]

theorem nodup_foldl_addOnce {l acc : List TimerId} (h : acc.Nodup) : (l.foldl addOnce acc).Nodup := by
  induction l generalizing acc with
  | nil => exact h
  | cons a l ih =>
    refine ih ?_
    unfold addOnce
    split
    · exact h
    · rename_i hmem
      have hmem' : a ∉ acc := by simpa using hmem
      exact List.nodup_append.2 ⟨h, List.nodup_singleton a, by
        rintro x hx y hy rfl
        exact hmem' (List.mem_singleton.1 hy ▸ hx)⟩

/-- Each timer is in the order of a tick, whatever it names. -/
theorem mem_tickOrder (order : List TimerId) (t : TimerId) : t ∈ tickOrder order := by
  have hall : t ∈ allTimers := by
    obtain ⟨b, k⟩ := t
    cases b <;> cases k <;> decide
  exact mem_foldl_addOnce.2 (.inr (List.mem_append.2 (.inr hall)))

theorem nodup_tickOrder (order : List TimerId) : (tickOrder order).Nodup := nodup_foldl_addOnce List.nodup_nil

/-! ### A tick that expires no timer -/

/-- A bay whose timers of the kinds that `f` names a tick has reached. -/
def Bay.tickedBy (f : TimerKind → Bool) (x : Bay) : Bay :=
  { x with
    acq := if f .acquisition = true then x.ticked.acq else x.acq
    thermal := if f .staleness = true then x.ticked.thermal else x.thermal
    meas := if f .revisit = true then x.ticked.meas else x.meas }

/-- No timer of the bay is about to expire (R35, R155). -/
def Bay.noneDue (x : Bay) : Prop :=
  (x.ctrl.state = .acquire → x.acq.elapsed + 1 < x.profile.acqTimeoutMs) ∧
    (x.thermal.staleRunning = true → x.thermal.staleTimer + 1 < 500)

/-- A timer that a tick has not reached counts when it is reached. -/
theorem tickTimer_eq {x : Bay} (h : x.noneDue) {f : TimerKind → Bool} {k : TimerKind} (hk : f k = false) {c : Ctx}
    (hc : c.bay = x.tickedBy f) :
    tickTimer k c = { c with bay := x.tickedBy fun j => f j || j == k } := by
  obtain ⟨id, bay, frames, records, notes⟩ := c
  subst hc
  cases k with
  | acquisition =>
    by_cases hs : x.ctrl.state = .acquire
    · have hdue : ¬ x.profile.acqTimeoutMs ≤ x.acq.elapsed + 1 := by have := h.1 hs; omega
      simp [tickTimer, tickAcquire, acquireDue, Bay.tickedBy, Bay.ticked, hs, hk, hdue, Ctx.setAcq, Ctx.ctrl, Ctx.profile]
    · have hstay : tickAcquire ⟨id, x.tickedBy f, frames, records, notes⟩ = ⟨id, x.tickedBy f, frames, records, notes⟩ := by
        unfold tickAcquire
        split
        · exact absurd ‹_› hs
        · rfl
      rw [tickTimer, hstay]
      simp [Bay.tickedBy, Bay.ticked, hs]
  | staleness =>
    by_cases hs : x.thermal.staleRunning = true
    · have hdue : ¬ 500 ≤ x.thermal.staleTimer + 1 := by have := h.2 hs; omega
      simp [tickTimer, tickStale, staleDue, Bay.tickedBy, Bay.ticked, hs, hk, hdue, Ctx.setThermal, Ctx.thermal,
        Config.staleLimit]
    · simp [tickTimer, tickStale, staleDue, Bay.tickedBy, Bay.ticked, hs, hk, Ctx.thermal]
  | revisit =>
    by_cases hs : x.sweep.active = true
    · simp [tickTimer, tickRevisit, Bay.tickedBy, Bay.ticked, hs, hk, Ctx.setMeas, Ctx.meas, Ctx.sweep]
    · simp [tickTimer, tickRevisit, Bay.tickedBy, Bay.ticked, hs, Ctx.sweep]

/-- The part `t` is `s` with the timers of `l` ticked. -/
structure Ticked (s t : State) (l : List TimerId) : Prop where
  rest : t = { s with bays := t.bays }
  bays : ∀ b, t.bays.get b = (s.bays.get b).tickedBy fun k => decide ((⟨b, k⟩ : TimerId) ∈ l)

/-- One more timer is ticked. -/
theorem ticked_tickOne {s t : State} (hs : ∀ b, (s.bays.get b).noneDue) {l : List TimerId} (h : Ticked s t l)
    {i : TimerId} (hi : i ∉ l) : Ticked s (tickOne t i) (l ++ [i]) := by
  have htick := tickTimer_eq (hs i.bay) (f := fun k => decide ((⟨i.bay, k⟩ : TimerId) ∈ l)) (k := i.kind)
    (by simpa using hi) (c := t.ctx i.bay) (h.bays i.bay)
  have hone : tickOne t i = { t with bays := t.bays.set i.bay ((s.bays.get i.bay).tickedBy fun j =>
      decide ((⟨i.bay, j⟩ : TimerId) ∈ l) || j == i.kind) } := by
    rw [← leaves_silent]
    exact onBay_leaves _ (by rw [htick]; rfl) (by rw [htick]) (by rw [htick]; rfl) (by rw [htick]; rfl)
  refine ⟨?_, fun b => ?_⟩
  · rw [hone, h.rest]
  · rw [hone]
    by_cases hb : b = i.bay
    · subst hb
      rw [PerBay.get_set_same]
      congr 1
      funext k
      rw [Bool.eq_iff_iff]
      obtain ⟨ib, ik⟩ := i
      simp
    · rw [PerBay.get_set_other _ hb _, h.bays b]
      congr 1
      funext k
      rw [Bool.eq_iff_iff]
      obtain ⟨ib, ik⟩ := i
      simpa using fun e => absurd e hb

theorem ticked_foldl {s : State} (hs : ∀ b, (s.bays.get b).noneDue) {l : List TimerId} (hl : l.Nodup) :
    Ticked s (l.foldl tickOne s) l := by
  induction l using List.reverseRecOn with
  | nil => exact ⟨rfl, fun b => rfl⟩
  | append_singleton l i ih =>
    rw [List.foldl_append]
    obtain ⟨h1, _, h3⟩ := List.nodup_append.1 hl
    exact ticked_tickOne hs (ih h1) fun hi => h3 i hi i (List.mem_singleton_self i) rfl

/-- A tick that expires no timer counts each running one once (R153). -/
theorem tickAll_eq {s : State} (hs : ∀ b, (s.bays.get b).noneDue) (order : List TimerId) :
    tickAll order s = { s with bays := ⟨s.bays.b0.ticked, s.bays.b1.ticked, s.bays.b2.ticked, s.bays.b3.ticked⟩ } := by
  have h := ticked_foldl hs (nodup_tickOrder order)
  have hb (b : BayIx) : (tickAll order s).bays.get b = (s.bays.get b).ticked := by
    rw [tickAll, h.bays b]
    simp only [mem_tickOrder, decide_true]
    rfl
  rw [tickAll, h.rest]
  congr 1
  refine PerBay.ext_get fun b => (hb b).trans ?_
  cases b <;> rfl

/-! ### Entering FAULT (R54) -/

/-- What entering FAULT from `c` by a sweep end `o` gives. -/
structure Faulted (o : SweepOutcome) (c d : Ctx) : Prop where
  id : d.id = c.id
  profile : d.bay.profile = c.bay.profile
  thermal : d.bay.thermal = c.bay.thermal
  state : d.bay.ctrl.state = .fault
  target : d.bay.ctrl.targetFinal = none
  command : d.bay.ctrl.command = parkOutput c.bay.profile
  inactive : d.bay.sweep.active = false
  outcome : c.bay.sweep.active = true → d.bay.sweep.lastOutcome = some o
  unit : d.bay.unit = c.bay.unit ∨ d.bay.unit = c.bay.unit.setFlag .sweepDone

/-- The bay in FAULT, its heads agreeing, with the clamped park_current (R54). -/
def Ctx.parked (c : Ctx) : Ctx :=
  let c2 := headSelect c.ctrl.loopHead (c.setCtrl { c.ctrl with frozen := false, watch := none })
  let c3 := (c2.setAcq { c2.bay.acq with run := 0 }).setCtrl
    { c2.ctrl with state := .fault, targetFinal := none, targetNow := none, prevErr := none, settle := 0 }
  setCommand (parkOutput c3.profile) c3

theorem enterFault_parked (o : SweepOutcome) (c : Ctx) :
    enterFault o c = (if c.bay.sweep.active = true then restoreRef (endCore o c) else c).parked := rfl

/-- What parking keeps, and what it names. -/
theorem parked_gives (c : Ctx) : c.parked.id = c.id ∧ c.parked.bay.profile = c.bay.profile ∧
    c.parked.bay.thermal = c.bay.thermal ∧ c.parked.bay.ctrl.state = .fault ∧
    c.parked.bay.ctrl.targetFinal = none ∧ c.parked.bay.ctrl.command = parkOutput c.bay.profile ∧
    c.parked.bay.sweep = c.bay.sweep ∧ c.parked.bay.unit = c.bay.unit := by
  unfold Ctx.parked headSelect
  simp only [setCommand_eq]
  split
  · exact ⟨rfl, rfl, rfl, rfl, rfl, rfl, rfl, rfl⟩
  · exact ⟨rfl, rfl, rfl, rfl, rfl, rfl, rfl, rfl⟩

theorem enterFault_faulted {o : SweepOutcome} (ho : o ≠ .complete) (c : Ctx) : Faulted o c (enterFault o c) := by
  rw [enterFault_parked]
  split
  · rename_i ha
    obtain ⟨h1, h2, h3, h4, h5, h6, h7, h8⟩ := parked_gives (restoreRef (endCore o c))
    rw [restoreRef_eq, endCore_eq _ ho] at *
    exact ⟨h1, h2, h3, h4, h5, h6, by rw [h7]; rfl, fun _ => by rw [h7]; rfl, .inr h8⟩
  · rename_i ha
    obtain ⟨h1, h2, h3, h4, h5, h6, h7, h8⟩ := parked_gives c
    exact ⟨h1, h2, h3, h4, h5, h6, by rw [h7]; simpa using ha, fun h => absurd h ha, .inl h8⟩

/-! ### Timers that expire (R35, R155) -/

section
variable {s : State} {b : BayIx}

theorem acquireDue_iff : acquireDue (s.ctx b) = true ↔ (s.bays.get b).ctrl.state = .acquire ∧
    (s.bays.get b).profile.acqTimeoutMs ≤ (s.bays.get b).acq.elapsed + 1 := by
  simp only [acquireDue, Bool.and_eq_true, beq_iff_eq, decide_eq_true_eq]
  rfl

theorem staleDue_iff : staleDue (s.ctx b) = true ↔ (s.bays.get b).thermal.staleRunning = true ∧
    500 ≤ (s.bays.get b).thermal.staleTimer + 1 := by
  simp [staleDue, Ctx.thermal, Config.staleLimit]

/-- The tick that expires the acquisition timer. -/
theorem tickAcquire_due {c : Ctx} (h : acquireDue c = true) :
    tickAcquire c = acquireExpires (c.setAcq { c.bay.acq with elapsed := c.bay.acq.elapsed + 1 }) := by
  have hs : c.ctrl.state = .acquire := by
    simp only [acquireDue, Bool.and_eq_true, beq_iff_eq] at h
    exact h.1
  simp only [tickAcquire, hs, h, if_true]

/-- The tick that makes the temperature stale (R155). -/
theorem tickStale_due {c : Ctx} (h : staleDue c = true) : tickStale c = { c with
    bay := ({ c.bay with thermal := { c.bay.thermal with
        staleTimer := 500, staleRunning := false, stale := true } }.raising .sensorStale).holding .stale true
    frames := c.frames ++ c.bay.unit.offers c.id (.sensorStale c.bay.thermal.temp) } := by
  simp only [tickStale, h, if_true, becomeStale]
  rw [addCause_eq, raise_eq]
  rfl
end

/-- Settles O16: the order is a list of all timers, and each expiry is the model's own. -/
theorem ticksCountAndExpire : Obligations.TicksCountAndExpire := by
  unfold Obligations.TicksCountAndExpire
  refine ⟨fun s order h1 h2 => congrArg Host.Outcome.next (tickAll_eq (fun b => ⟨h1 b, h2 b⟩) order), ?_⟩
  intro s b x d due stale
  refine ⟨fun hdue hact hsel => ?_, fun hdue hact => ?_, fun hstale => ?_, fun hdue => ?_, fun hstale => ?_⟩
  · have hd := acquireDue_iff.2 hdue
    have he : tickAcquire (s.ctx b) = _ := (tickAcquire_due hd).trans
      ((congrArg (enterFault .lostServo) (raise_idle (by exact hact) _)).trans
        (enterFault_idle (by exact hact) _ (by exact hsel)))
    simp only [exec, execAcquireTimeout, hd, if_true]
    exact congrArg Host.Outcome.next (onBay_leaves _ (by rw [he]; rfl) (by rw [he]; rfl) (by rw [he]; rfl) (by rw [he]; rfl))
  · have hd := acquireDue_iff.2 hdue
    have hf := enterFault_faulted (o := .lostServo) (by decide) (raise d
      ((s.ctx b).setAcq { x.acq with elapsed := x.acq.elapsed + 1 }))
    have he : tickAcquire (s.ctx b) = _ := tickAcquire_due hd
    have hid : (tickAcquire (s.ctx b)).id = b := by rw [he]; exact hf.id.trans (raise_id _ _)
    refine ⟨onBay b tickAcquire s, ?_, ?_⟩
    · simp only [exec, execAcquireTimeout, hd, if_true]
    · rw [onBay_bays b _ s hid, PerBay.get_set_same, he]
      exact ⟨hf.state, hf.command.trans (by rw [raise_eq]; rfl), hf.inactive, hf.outcome (by
          rw [raise_bay, Bay.raising]
          split <;> exact hact),
        fun a ha => PerBay.get_set_other _ ha _⟩
  · have hd := staleDue_iff.2 hstale
    have he := tickStale_due hd
    simp only [exec, execSensorStale, hd, if_true]
    exact congrArg Host.Outcome.next (onBay_leaves _ (by rw [he]; rfl) (by rw [he]; rfl) (by rw [he]; rfl) (by rw [he]; rfl))
  · have hd : ¬ acquireDue (s.ctx b) = true := fun h => hdue (acquireDue_iff.1 h)
    simp only [exec, execAcquireTimeout, if_neg hd]
  · have hd : ¬ staleDue (s.ctx b) = true := fun h => hstale (staleDue_iff.1 h)
    simp only [exec, execSensorStale, if_neg hd]

end Sys2Proof.Machine

namespace Sys2Proof.Machine

/-! SUPPORT. The boundary leaves the thermal record as it stands and takes no bay to OFFLINE or FAULT, which a
TEMP at cutoff_temp needs of a HELD bay that it sets free (R146, R160). -/

/-- The bay's thermal record is `th`, and it is neither OFFLINE nor in FAULT. -/
def Ctx.up (th : Thermal) (c : Ctx) : Prop :=
  c.bay.thermal = th ∧ c.bay.ctrl.state ≠ .offline ∧ c.bay.ctrl.state ≠ .fault

section
variable {th : Thermal} {c : Ctx}

theorem up_of_eq {d : Ctx} (h : c.up th) (ht : d.bay.thermal = c.bay.thermal)
    (hs : d.bay.ctrl.state = c.bay.ctrl.state) : d.up th :=
  ⟨ht.trans h.1, hs ▸ h.2.1, hs ▸ h.2.2⟩

theorem up_setSweep (h : c.up th) (x : Sweep) : (c.setSweep x).up th := h

theorem up_setMeas (h : c.up th) (x : Meas) : (c.setMeas x).up th := h

theorem up_setMap (h : c.up th) (x : Table Entry) : (c.setMap x).up th := h

theorem up_raise (h : c.up th) (d : Details) : (raise d c).up th := by
  rw [raise_eq]
  exact h

theorem up_setLoopHead (h : c.up th) (i : Nat) : (setLoopHead i c).up th := by
  rw [setLoopHead_ctx]
  exact h

theorem up_beginWork (h : c.up th) (w : Work) : (beginWork w c).up th := by
  unfold beginWork beginLoopSwitch
  split
  · simp only
    split
    · exact h
    · exact up_setLoopHead h _
  · exact h
  · exact h

theorem up_endSweep (h : c.up th) (o : SweepOutcome) : (endSweep o c).up th := by
  have hdrop : (dropWork c).up th := up_of_eq h rfl rfl
  have hcore : (endCore o c).up th := by
    unfold endCore
    refine up_raise ?_ _
    simp only
    split
    · exact up_setSweep (up_setSweep hdrop _) _
    · exact up_setSweep (up_setMap (up_setSweep hdrop _) _) _
  have hrestored : (restoreRef (endCore o c)).up th := by
    unfold restoreRef
    generalize endCore o c = d at *
    refine up_setLoopHead ?_ _
    exact up_of_eq hcore rfl rfl
  unfold endSweep placeAfterSweep
  generalize restoreRef (endCore o c) = d at *
  simp only
  split
  · exact ⟨hrestored.1, nofun, nofun⟩
  · exact hrestored
  · split
    · exact hrestored
    · split
      · exact ⟨hrestored.1, nofun, nofun⟩
      · exact ⟨hrestored.1, nofun, nofun⟩

theorem up_writeResult (h : c.up th) (head zone : Nat) (r : StepResult) : (writeResult head zone r c).up th := by
  unfold writeResult
  simp only
  split
  · exact up_setSweep h _
  · have hwritten := up_setSweep (up_setMap h (mapPut c.bay.map head zone ((mapGet c.bay.map head zone).write r)))
      { c.sweep with measured := satInc 65535 c.sweep.measured, lastStep := some .written }
    split
    · refine up_raise ?_ _
      split
      · exact up_setMeas hwritten _
      · exact hwritten
    · split
      · exact up_setMeas hwritten _
      · exact hwritten

theorem up_pushPlan (h : c.up th) (p : Plan) : (pushPlan p c).up th := by
  unfold pushPlan
  split
  · exact up_setSweep h _
  · exact up_setSweep (up_raise (up_setSweep h _) _) _

theorem up_takeProbe (h : c.up th) : (takeProbe c).up th := by
  unfold takeProbe
  split
  · exact h
  · refine up_setSweep ?_ _
    split
    · exact h
    · split
      · exact up_pushPlan h _
      · exact up_setSweep h _

theorem up_boundaryStep3 (h : c.up th) : (boundaryStep3 c).1.up th := by
  unfold boundaryStep3
  split
  · exact up_beginWork h _
  · simp only
    split
    · exact up_beginWork (c := testTriggers c) h _
    · exact h

theorem up_boundaryStep23 (h : c.up th) : (boundaryStep23 c).1.up th := by
  unfold boundaryStep23
  split
  · exact up_endSweep h _
  · split
    · exact up_boundaryStep3 h
    · exact ⟨h.1, nofun, nofun⟩

theorem up_writeStep (h : c.up th) (head zone : Nat) (r : StepResult) : (writeStep head zone r c).up th :=
  up_writeResult (up_setSweep h _) _ _ _

theorem up_stamp (h : c.up th) (w : Work) : (stamp w c).2.up th := by
  unfold stamp
  split <;> exact h

theorem up_takeStep (h : c.up th) (r : StepRec) : (takeStep r c).1.up th := by
  have measuring (jog : Bool) : (takeMeasuring jog r.head r.zone c).1.up th := by
    unfold takeMeasuring
    simp only
    split
    · exact h
    split
    · exact up_writeStep h _ _ _
    split
    · exact up_writeStep h _ _ _
    split
    · exact up_beginWork h _
    split
    · exact up_writeStep (up_stamp h _) _ _ _
    · exact up_beginWork h _
  unfold takeStep
  split
  · exact up_beginWork h _
  · exact measuring _
  · exact measuring _

theorem up_boundaryStep45 (h : c.up th) (n : Nat) : (boundaryStep45 n c).up th := by
  induction n generalizing c with
  | zero => exact h
  | succ n ih =>
    have hchosen (x : Sweep) : ((takeProbe c).setSweep x).up th := up_setSweep (up_takeProbe h) x
    unfold boundaryStep45
    simp only
    split
    · split
      · split
        · exact ih (up_boundaryStep23 (up_takeStep (hchosen _) _))
        · exact up_boundaryStep23 (up_takeStep (hchosen _) _)
      · exact up_takeStep (hchosen _) _
    · split
      · exact up_beginWork (hchosen _) _
      · exact up_endSweep (hchosen _) _

theorem up_resumeIfFree (h : c.up th) : (resumeIfFree c).up th := by
  unfold resumeIfFree
  split
  · have hs : (c.setCtrl { c.ctrl with state := .sweep }).up th := ⟨h.1, nofun, nofun⟩
    unfold boundaryFrom3
    simp only
    split
    · exact up_boundaryStep45 (up_boundaryStep3 hs) _
    · exact up_boundaryStep3 hs
  · exact h

theorem up_removeCause (h : c.up th) (k : HoldCause) : (removeCause k c).up th := by
  unfold removeCause
  split
  · exact up_resumeIfFree (up_setSweep h _)
  · exact h
end

/-- The hold level's evaluation leaves the rest of the thermal record, and the bay up (R156). -/
theorem up_evalHold {th : Thermal} {c : Ctx} (h : c.up th) :
    (evalHold c).up { th with hold := th.holdLevel c.bay.profile } := by
  obtain ⟨hth, ho, hf⟩ := h
  by_cases e : c.bay.thermal.holdLevel c.bay.profile = c.bay.thermal.hold
  · rw [evalHold_same e]
    refine ⟨?_, ho, hf⟩
    rw [← hth, e]
  · by_cases hh : c.bay.thermal.hold = true
    · have hl : c.bay.thermal.holdLevel c.bay.profile = false := by simpa [hh] using e
      obtain ⟨v, ht, hv⟩ := holdLevel_falls hh hl
      rw [evalHold_falls ht hh hv]
      refine up_removeCause (c := (raise _ c).setThermal _) ⟨?_, ?_, ?_⟩ _
      · rw [← hth, hl]; rfl
      · exact (up_raise ⟨hth, ho, hf⟩ _).2.1
      · exact (up_raise ⟨hth, ho, hf⟩ _).2.2
    · have hh' : c.bay.thermal.hold = false := Bool.not_eq_true _ ▸ hh
      have hl : c.bay.thermal.holdLevel c.bay.profile = true := by simpa [hh'] using e
      obtain ⟨v, ht, hv⟩ := holdLevel_rises hh' hl
      rw [evalHold_rises ht hh' hv, addCause_eq]
      refine ⟨?_, ?_, ?_⟩
      · rw [← hth, hl]; rfl
      · exact (up_raise ⟨hth, ho, hf⟩ _).2.1
      · exact (up_raise ⟨hth, ho, hf⟩ _).2.2

end Sys2Proof.Machine

namespace Sys2Proof.Machine

/-! SUPPORT. Steps 3 to 5 of the boundary on the whole bay at work (R101, R138 to R142): the inline visit of a
due trigger, the current plan's next step, and a REF step's visit. -/

section
variable {c : Ctx}

/-- A current plan with a step left gives it, and stays current (R141). -/
theorem chooseStep_current {store : List StepRec} {q p : Plan} {r : StepRec} (h : nextOf store q = some (r, p))
    (stack : List Plan) (b : BasePlan) : chooseStep store stack (some q) b = ⟨some r, some p, stack, b⟩ := by
  cases stack <;> simp [chooseStep, h]

/-- An exhausted plan makes the one on top of the stack the current one (R141). -/
theorem chooseStep_pops {store : List StepRec} {q top : Plan} (h : nextOf store q = none)
    (stack : List Plan) (b : BasePlan) :
    chooseStep store (top :: stack) (some q) b = chooseStep store stack (some top) (finishPlan (some q) b) := by
  simp [chooseStep, h]

theorem chooseStep_exhausted {store : List StepRec} {q : Plan} (h : nextOf store q = none) (b : BasePlan) :
    chooseStep store [] (some q) b = ⟨none, none, [], finishPlan (some q) b⟩ := by
  simp [chooseStep, h]

/-- The bay at work once step 5 of the boundary has chosen (R141). -/
def Ctx.choosing (c : Ctx) (k : Chosen) : Ctx :=
  c.setSweep { c.sweep with plan := k.plan, stack := k.stack, basePlan := k.basePlan }

/-- What step 5 of the boundary chooses. -/
def Ctx.choice (c : Ctx) : Chosen := chooseStep c.bay.store c.sweep.stack c.sweep.plan c.sweep.basePlan

/-- What the boundary does with its choice. -/
def Ctx.takesChoice (n : Nat) (c : Ctx) (k : Chosen) : Ctx :=
  match k.step with
  | some r =>
    if (takeStep r (c.choosing k)).2 = true then
      if (boundaryStep23 (takeStep r (c.choosing k)).1).2 = true then
        boundaryStep45 n (boundaryStep23 (takeStep r (c.choosing k)).1).1
      else (boundaryStep23 (takeStep r (c.choosing k)).1).1
    else (takeStep r (c.choosing k)).1
  | none =>
    if anyProvisional c.bay.map = true then beginVisit .closing (c.choosing k) else endSweep .complete (c.choosing k)

theorem boundaryStep45_succ (n : Nat) (c : Ctx) :
    boundaryStep45 (n + 1) c = (takeProbe c).takesChoice n (takeProbe c).choice := rfl

/-- A chosen step that begins work is the end of the boundary (R142). -/
theorem boundaryStep45_begins {n : Nat} {r : StepRec} {d : Ctx} (hk : (takeProbe c).choice.step = some r)
    (ht : takeStep r ((takeProbe c).choosing (takeProbe c).choice) = (d, false)) : boundaryStep45 (n + 1) c = d := by
  rw [boundaryStep45_succ, Ctx.takesChoice, hk]
  simp only [ht]
  rfl

/-- After a chosen step that does not measure, a new boundary begins at once (R137, R142). -/
theorem boundaryStep45_goes_on {n : Nat} {r : StepRec} {d : Ctx} (hk : (takeProbe c).choice.step = some r)
    (ht : takeStep r ((takeProbe c).choosing (takeProbe c).choice) = (d, true)) : boundaryStep45 (n + 1) c =
      if (boundaryStep23 d).2 = true then boundaryStep45 n (boundaryStep23 d).1 else (boundaryStep23 d).1 := by
  rw [boundaryStep45_succ, Ctx.takesChoice, hk]
  simp only [ht, if_true]

/-- With no step left, the closing visit begins while a part is PROVISIONAL; else the sweep is COMPLETE (R104). -/
theorem boundaryStep45_ends {n : Nat} (hk : (takeProbe c).choice.step = none) : boundaryStep45 (n + 1) c =
    if anyProvisional (takeProbe c).bay.map = true then
      beginVisit .closing ((takeProbe c).choosing (takeProbe c).choice)
    else endSweep .complete ((takeProbe c).choosing (takeProbe c).choice) := by
  rw [boundaryStep45_succ, Ctx.takesChoice, hk]

/-- One event always takes a step. -/
theorem boundaryFuel_pos (c : Ctx) : ∃ n, boundaryFuel c = n + 1 := ⟨_, rfl⟩

/-- A probe with two steps left allows a second. -/
theorem boundaryFuel_two {id : Nat} {r : StepRec} {rest : List StepRec}
    (h : c.bay.sweep.plan = some (.probe id (r :: rest))) : ∃ n, boundaryFuel c = n + 2 := by
  refine ⟨boundaryFuel c - 2, ?_⟩
  have hsize : 2 ≤ boundaryFuel c := by
    unfold boundaryFuel
    rw [show c.sweep.plan = some (.probe id (r :: rest)) from h]
    simp only [planSize, List.length_cons]
    omega
  omega

theorem takeProbe_none (h : c.bay.sweep.probe = none) : takeProbe c = c := by
  simp [takeProbe, h]

/-- The plan's next step is what step 5 chooses, no probe being pending. -/
theorem choice_current {q p : Plan} {r : StepRec} (hplan : c.bay.sweep.plan = some q)
    (hnext : nextOf c.bay.store q = some (r, p)) :
    c.choice = ⟨some r, some p, c.bay.sweep.stack, c.bay.sweep.basePlan⟩ := by
  rw [Ctx.choice, show c.sweep.plan = some q from hplan]
  exact chooseStep_current hnext _ _

/-- A REF step in front begins a planned visit (R142). -/
theorem boundaryStep45_ref {n : Nat} {k : Chosen} {r : StepRec} {z : Zone} (hk : (takeProbe c).choice = k)
    (hstep : k.step = some r) (hr : r.kind = .ref)
    (hz : zoneGet (takeProbe c).bay.zones (takeProbe c).bay.profile.refZone = some z) (ht : z.track ≤ 524287)
    (hs : (takeProbe c).bay.ctrl.state = .sweep) : boundaryStep45 (n + 1) c = { (takeProbe c) with
      bay := ((takeProbe c).choosing k).bay.visits .planned z.track } := by
  have htake : takeStep r ((takeProbe c).choosing (takeProbe c).choice) =
      (beginVisit .planned ((takeProbe c).choosing k), false) := by
    rw [takeStep, hr, hk]
  rw [boundaryStep45_begins (by rw [hk]; exact hstep) htake]
  exact beginVisit_eq ((takeProbe c).choosing k) .planned hz ht hs

/-- A test of triggers of which none is due changes nothing (R101). -/
theorem flagged_of_not_due {x : Bay} (h : x.isDue = false) : x.flagged = x := by
  have h' : x.triggers.1 = false ∧ x.triggers.2.1 = false ∧ x.triggers.2.2 = false := by
    simpa [Bay.isDue, and_assoc] using h
  obtain ⟨h1, h2, h3⟩ := h'
  have d1 : x.meas.dueCount = false := by
    simp only [Bay.triggers, Bool.or_eq_false_iff] at h1
    exact h1.1
  have d2 : x.meas.dueTime = false := by
    simp only [Bay.triggers, Bool.or_eq_false_iff] at h2
    exact h2.1
  have d3 : x.meas.dueTemp = false := by
    simp only [Bay.triggers, Bool.or_eq_false_iff] at h3
    exact h3.1
  unfold Bay.flagged
  rw [h1.trans d1.symm, h2.trans d2.symm, h3.trans d3.symm]

/-- The visits with which a boundary of a bay in SWEEP goes on at its step 3: the opening visit of an empty log,
the inline visit of a due trigger, or a planned visit in front (R101, R138, R142). -/
theorem boundaryFrom3_visits {z : Zone} {id : Nat} {rest : List StepRec} (hs : c.bay.ctrl.state = .sweep)
    (hz : zoneGet c.bay.zones c.bay.profile.refZone = some z) (ht : z.track ≤ 524287)
    (h : c.bay.meas.log = [] ∨ c.bay.isDue = true ∨ c.bay.sweep.refNext id rest) :
    boundaryFrom3 c = { c with
      bay := if c.bay.meas.log = [] then c.bay.visits .opening z.track
        else if c.bay.isDue = true then c.bay.flagged.visits .onTrigger z.track
        else ({ c.bay with sweep := { c.bay.sweep with plan := some (.probe id rest) } } : Bay).visits
          .planned z.track } := by
  by_cases hlog : c.bay.meas.log = []
  · rw [boundaryFrom3_opening hlog, if_pos hlog]
    exact beginVisit_eq c .opening hz ht hs
  · rw [if_neg hlog]
    by_cases hdue : c.bay.isDue = true
    · rw [boundaryFrom3_due hlog hdue, if_pos hdue]
      exact beginVisit_eq _ .onTrigger hz ht hs
    · have hdue' := Bool.eq_false_iff.2 hdue
      obtain ⟨hprobe, r, hr, hplan⟩ := (h.resolve_left hlog).resolve_left hdue
      obtain ⟨n, hn⟩ := boundaryFuel_pos c
      rw [boundaryFrom3_not_due hlog hdue', flagged_of_not_due hdue', if_neg hdue]
      rw [boundaryFrom4, hn, boundaryStep45_ref (k := ⟨some r, some (.probe id rest), c.bay.sweep.stack,
        c.bay.sweep.basePlan⟩) (by rw [takeProbe_none hprobe]; exact choice_current hplan rfl) rfl hr (by rw [takeProbe_none hprobe]; exact hz) ht (by rw [takeProbe_none hprobe]; exact hs),
        takeProbe_none hprobe]
      rfl
end

end Sys2Proof.Machine

namespace Sys2Proof.Machine

/-! SUPPORT. TEMP and FAULT records (R154 to R160) on the whole bay at work, and statements O19, O20 and O21. -/

/-! ### Records that reach a powered bay -/

section
variable {s : State} {b : BayIx} {x : Bay} {frames : List EventFrame} {records : List OutRecord}
  {notes : List Note}

theorem temp_reaches {v : Int} (hon : (s.bays.get b).ctrl.state ≠ .offline) (h1 : v ≤ 600) (h2 : -160 ≤ v) :
    exec (.temp b v) s = .next (onBay b (takeTemp v) s) := by
  have h : reaches b (.temp v) s = true := by
    simp [reaches, offline_eq_false hon, InRecord.wellFormed, h1, h2]
  simp only [exec, execTemp, h, if_true]

theorem fault_reaches (a : Bool) (hon : (s.bays.get b).ctrl.state ≠ .offline) :
    exec (.fault b a) s = .next (onBay b (takeFault a) s) := by
  have h : reaches b (.fault a) s = true := by
    simp [reaches, offline_eq_false hon, InRecord.wellFormed]
  simp only [exec, execFault, h, if_true]

/-- What a bay's work gives, as the next state. -/
theorem next_leaves {f : Ctx → Ctx} (h : f (s.ctx b) = ⟨b, x, frames, records, notes⟩) :
    (Host.Outcome.next (onBay b f s) : Host.Outcome State Fault Refusal) = .next (s.leaves b x frames records) :=
  congrArg Host.Outcome.next (onBay_leaves f (congrArg Ctx.id h) (congrArg Ctx.bay h) (congrArg Ctx.frames h)
    (congrArg Ctx.records h))
end

/-! ### The fault line (R158, R159) -/

@[simp] theorem Bay.raising_active (x : Bay) (k : EventKind) : (x.raising k).sweep.active = x.sweep.active := by
  unfold Bay.raising
  split <;> rfl

@[simp] theorem Bay.holding_active (x : Bay) (k : HoldCause) (p : Bool) :
    (x.holding k p).sweep.active = x.sweep.active := by
  unfold Bay.holding
  split <;> rfl

/-- The bay at work after the line has become active and FAULT_LINE is raised (R158). -/
def Ctx.lineRisen (c : Ctx) : Ctx := { c with
  bay := ({ c.bay with thermal := { c.bay.thermal with line := true } } : Bay).raising .faultLine
  frames := c.frames ++ c.bay.unit.offers c.id (.faultLine c.bay.profile.faultLineAction c.bay.ctrl.state) }

section
variable {c : Ctx}

theorem takeFault_same : takeFault c.bay.thermal.line c = c := if_pos rfl

/-- The line becomes active (R158, R159). -/
theorem takeFault_rises (h : c.bay.thermal.line = false) : takeFault true c =
    match c.bay.profile.faultLineAction with
    | .none => c.lineRisen
    | .hold => addCause .faultLine c.lineRisen
    | .cutoff => afterCutoff c.bay.thermal.cutoff c.lineRisen := by
  have hbefore : cutoffPresent c.profile c.thermal = c.bay.thermal.cutoff := by
    simp [cutoffPresent, Ctx.thermal, h]
  unfold takeFault
  rw [if_neg (show ¬ true = c.thermal.line by simp [Ctx.thermal, h])]
  simp only [if_true, raise_eq, hbefore]
  rfl

theorem takeFault_rises_none (h : c.bay.thermal.line = false) (ha : c.bay.profile.faultLineAction = .none) :
    takeFault true c = c.lineRisen := by
  rw [takeFault_rises h, ha]

theorem takeFault_rises_hold (h : c.bay.thermal.line = false) (ha : c.bay.profile.faultLineAction = .hold) :
    takeFault true c = { c.lineRisen with bay := c.lineRisen.bay.holding .faultLine true } := by
  rw [takeFault_rises h, ha]
  exact addCause_eq _ _

theorem takeFault_rises_cutoff (h : c.bay.thermal.line = false) (ha : c.bay.profile.faultLineAction = .cutoff) :
    takeFault true c = afterCutoff c.bay.thermal.cutoff c.lineRisen := by
  rw [takeFault_rises h, ha]

/-- With the action CUTOFF an active line is the cutoff condition (R160). -/
theorem cutoffPresent_lineRisen (ha : c.bay.profile.faultLineAction = .cutoff) :
    cutoffPresent c.lineRisen.bay.profile c.lineRisen.bay.thermal = true := by
  simp [cutoffPresent, Ctx.lineRisen, Bay.raising, ha]

/-- The line becomes inactive (R159). -/
theorem takeFault_falls (h : c.bay.thermal.line = true) (ha : c.bay.profile.faultLineAction ≠ .hold) :
    takeFault false c = c.setThermal { c.bay.thermal with line := false } := by
  unfold takeFault
  rw [if_neg (show ¬ false = c.thermal.line by simp [Ctx.thermal, h])]
  simp only [Bool.false_eq_true, if_false]
  split
  · rfl
  · exact absurd ‹_› ha
  · rfl

theorem takeFault_falls_hold (h : c.bay.thermal.line = true) (ha : c.bay.profile.faultLineAction = .hold) :
    takeFault false c = removeCause .faultLine (c.setThermal { c.bay.thermal with line := false }) := by
  unfold takeFault
  rw [if_neg (show ¬ false = c.thermal.line by simp [Ctx.thermal, h])]
  simp only [Bool.false_eq_true, if_false]
  split
  · rename_i h'
    exact absurd (ha.symm.trans h') (by decide)
  · rfl
  · rename_i h'
    exact absurd (ha.symm.trans h') (by decide)
end

/-- Settles O20, by the level found and fault_line_action. -/
theorem faultLineArrives : Obligations.FaultLineArrives := by
  unfold Obligations.FaultLineArrives
  intro s b a x d risen fallen hon
  refine ⟨fun hl => ?_, fun hl ha => ?_, fun hl ha => ?_, fun hl ha => ⟨fun hs => ?_, fun hc hact hs hsel => ?_,
    fun hc hact hs => ?_⟩, fun hl ha => ?_, fun hl ha hstay => ?_⟩
  · subst hl
    rw [fault_reaches _ hon]
    refine congrArg Host.Outcome.next ?_
    unfold onBay
    rw [show takeFault x.thermal.line (s.ctx b) = s.ctx b from takeFault_same (c := s.ctx b)]
    exact commit_ctx s b
  · rw [fault_reaches _ hon]
    exact next_leaves (takeFault_rises_none (c := s.ctx b) hl ha)
  · rw [fault_reaches _ hon]
    exact next_leaves (takeFault_rises_hold (c := s.ctx b) hl ha)
  · rw [fault_reaches _ hon]
    refine next_leaves ((takeFault_rises_cutoff (c := s.ctx b) hl ha).trans (afterCutoff_stays ?_))
    exact hs.imp id fun h => .inr (.inl (by simpa [Ctx.lineRisen, Bay.raising] using h))
  · rw [fault_reaches _ hon]
    refine next_leaves ((takeFault_rises_cutoff (c := s.ctx b) hl ha).trans
      ((afterCutoff_rises hc (cutoffPresent_lineRisen (c := s.ctx b) ha) hs hon).trans
        (enterFault_idle ?_ _ hsel)))
    exact (Bay.raising_active _ _).trans hact
  · have hf := enterFault_faulted (o := .faulted) (by decide) (s.ctx b).lineRisen
    have he : takeFault true (s.ctx b) = enterFault .faulted (s.ctx b).lineRisen :=
      (takeFault_rises_cutoff (c := s.ctx b) hl ha).trans
        (afterCutoff_rises hc (cutoffPresent_lineRisen (c := s.ctx b) ha) hs hon)
    have hid : (takeFault true (s.ctx b)).id = b := by rw [he]; exact hf.id
    refine ⟨_, fault_reaches _ hon, ?_⟩
    rw [onBay_bays b _ s hid, PerBay.get_set_same, he]
    exact ⟨hf.state, hf.command, hf.inactive, hf.outcome ((Bay.raising_active _ _).trans hact),
      fun a ha => PerBay.get_set_other _ ha _⟩
  · rw [fault_reaches _ hon]
    exact next_leaves (takeFault_falls (c := s.ctx b) hl ha)
  · rw [fault_reaches _ hon]
    exact next_leaves ((takeFault_falls_hold (c := s.ctx b) hl ha).trans (removeCause_stays _ _ hstay))

/-! ### A temperature (R154 to R157) -/

/-- The bay at work with a temperature taken (R154). -/
def Ctx.tempRead (v : Int) (c : Ctx) : Ctx := c.setThermal
  { c.bay.thermal with temp := some v, staleTimer := 0, staleRunning := true, stale := false }

/-- The bay at work once a stale level has fallen (R155). -/
def Ctx.freshened (v : Int) (c : Ctx) : Ctx :=
  if c.bay.thermal.stale = true then removeCause .stale (c.tempRead v) else c.tempRead v

/-- The cutoff level evaluated, and what its rise does (R157, R160). -/
def Ctx.cutoffActs (c : Ctx) : Ctx := afterCutoff (cutoffPresent c.bay.profile c.bay.thermal) (evalCutoff c)

theorem takeTemp_eq (v : Int) (c : Ctx) : takeTemp v c = (evalHold (c.freshened v)).cutoffActs := rfl

section
variable {c : Ctx} {v : Int}

/-- A cutoff level that does not rise stands down to cutoff_temp - hyst (R157). -/
theorem cutoffActs_quiet (ht : c.bay.thermal.temp = some v)
    (h : c.bay.thermal.cutoff = false → v < c.bay.profile.cutoffTemp) :
    c.cutoffActs = c.setThermal { c.bay.thermal with
      cutoff := c.bay.thermal.cutoff && decide (c.bay.profile.cutoffTemp - c.bay.profile.hyst ≤ v) } := by
  have hlevel : c.bay.thermal.cutoffLevel c.bay.profile =
      (c.bay.thermal.cutoff && decide (c.bay.profile.cutoffTemp - c.bay.profile.hyst ≤ v)) := by
    cases hc : c.bay.thermal.cutoff
    · simpa [Thermal.cutoffLevel, ht, hc] using h hc
    · simp [Thermal.cutoffLevel, ht, hc]
  have hquiet : ¬(c.bay.thermal.cutoff = false ∧ c.bay.thermal.cutoffLevel c.bay.profile = true) := by
    rw [hlevel]
    simp +contextual
  rw [Ctx.cutoffActs, evalCutoff_quiet hquiet, hlevel, afterCutoff_stays]
  by_cases hb : cutoffPresent c.bay.profile c.bay.thermal = true
  · exact .inl hb
  · refine .inr (.inl ?_)
    simp only [cutoffPresent, Bool.or_eq_true, not_or, Bool.not_eq_true] at hb
    simp [cutoffPresent, hb.1, hb.2]

/-- A cutoff level that rises takes the bay to FAULT, or finds it there (R157, R160). -/
theorem cutoffActs_rises (ht : c.bay.thermal.temp = some v) (hc : c.bay.thermal.cutoff = false)
    (hv : c.bay.profile.cutoffTemp ≤ v) : c.cutoffActs =
      afterCutoff (cutoffPresent c.bay.profile c.bay.thermal) { c with
        bay := ({ c.bay with thermal := { c.bay.thermal with cutoff := true } } : Bay).raising .tempCutoff
        frames := c.frames ++ c.bay.unit.offers c.id (.tempCutoff v c.bay.profile.cutoffTemp c.bay.ctrl.state) } := by
  rw [Ctx.cutoffActs, evalCutoff_rises ht hc hv, raise_eq]
  rfl

/-- A hold level that stands clear, and one that stands set (R156). -/
theorem evalHold_clear (ht : c.bay.thermal.temp = some v) (hh : c.bay.thermal.hold = false)
    (h : v < c.bay.profile.holdTemp) : evalHold c = c :=
  evalHold_same (by simpa [Thermal.holdLevel, ht, hh] using h)

theorem evalHold_set (ht : c.bay.thermal.temp = some v) (hh : c.bay.thermal.hold = true)
    (h : c.bay.profile.holdTemp - c.bay.profile.hyst ≤ v) : evalHold c = c :=
  evalHold_same (by simpa [Thermal.holdLevel, ht, hh] using h)

/-- A stale level that falls without setting the bay free (R155). -/
theorem freshened_stays (h : c.bay.thermal.stale = true → c.bay.ctrl.state = .held →
    (c.bay.holding .stale false).sweep.holds.isEmpty = false) : c.freshened v = { c with
      bay := { c.bay with
        thermal := { c.bay.thermal with temp := some v, staleTimer := 0, staleRunning := true, stale := false }
        sweep := if c.bay.thermal.stale = true then (c.bay.holding .stale false).sweep else c.bay.sweep } } := by
  unfold Ctx.freshened
  split
  · exact removeCause_stays .stale (c.tempRead v) (h ‹_›)
  · rfl
end

theorem EventUnit.flag_setFlag (u : EventUnit) (j k : EventKind) :
    (u.setFlag j).flag k = (u.flag k || decide (j = k)) := by
  unfold EventUnit.setFlag EventUnit.flag
  rw [BitVec.getLsbD_or]
  congr 1
  cases j <;> cases k <;> decide

/-- Raising an event sets its flag, and clears none. -/
theorem EventUnit.flag_of_setFlag {u : EventUnit} {k : EventKind} (h : u.flag k = true) (j : EventKind) :
    (u.setFlag j).flag k = true := by
  rw [EventUnit.flag_setFlag, h, Bool.true_or]

/-- A bay that is up stays up until the cutoff level is evaluated. -/
theorem up_evalHold_freshened {c : Ctx} (v : Int) (h : c.up c.bay.thermal) :
    ∃ hold, (evalHold (c.freshened v)).up { c.bay.thermal with
      temp := some v, staleTimer := 0, staleRunning := true, stale := false, hold := hold } := by
  have hread : (c.tempRead v).up { c.bay.thermal with
      temp := some v, staleTimer := 0, staleRunning := true, stale := false } := ⟨rfl, h.2⟩
  have hfresh : (c.freshened v).up { c.bay.thermal with
      temp := some v, staleTimer := 0, staleRunning := true, stale := false } := by
    unfold Ctx.freshened
    split
    · exact up_removeCause hread _
    · exact hread
  exact ⟨_, up_evalHold hfresh⟩

theorem evalHold_freshened_kept (v : Int) (c : Ctx) : (evalHold (c.freshened v)).kept = c.kept := by
  rw [evalHold_kept]
  unfold Ctx.freshened
  split
  · exact removeCause_kept _ _
  · rfl

/-- The cutoff level rises in a bay that is up, its line inactive: the bay enters FAULT (R160). -/
theorem takeTemp_faults {c : Ctx} {v : Int} (hon : c.bay.ctrl.state ≠ .offline) (hs : c.bay.ctrl.state ≠ .fault)
    (hl : c.bay.thermal.line = false) (hc : c.bay.thermal.cutoff = false) (hv : c.bay.profile.cutoffTemp ≤ v) :
    ∃ d, takeTemp v c = enterFault .faulted d ∧ d.id = c.id ∧ d.bay.profile = c.bay.profile ∧
      d.bay.thermal.cutoff = true ∧ d.bay.thermal.temp = some v ∧ d.bay.unit.flag .tempCutoff = true := by
  obtain ⟨hold, hup⟩ := up_evalHold_freshened v (c := c) ⟨rfl, hon, hs⟩
  have hkept := evalHold_freshened_kept v c
  have hid : (evalHold (c.freshened v)).id = c.id := id_of_kept hkept
  have hprofile : (evalHold (c.freshened v)).bay.profile = c.bay.profile := congrArg Kept.profile hkept
  rw [takeTemp_eq]
  generalize evalHold (c.freshened v) = e at *
  obtain ⟨hth, ho, hf⟩ := hup
  have hpresent : cutoffPresent e.bay.profile e.bay.thermal = false := by
    rw [hth]
    simp [cutoffPresent, hc, hl]
  have hunit : (e.bay.unit.setFlag .tempCutoff).flag .tempCutoff = true := by
    rw [EventUnit.flag_setFlag]
    simp
  refine ⟨_, (cutoffActs_rises (by rw [hth]) (by rw [hth]; exact hc) (by rw [hprofile]; exact hv)).trans
    (afterCutoff_rises hpresent ?_ hf ho), hid, hprofile, rfl, congrArg Thermal.temp hth, hunit⟩
  simp [cutoffPresent, Bay.raising]

/-- Settles O19, by the temperature read, the hold level and the cutoff level in turn. -/
theorem tempArrives : Obligations.TempArrives := by
  unfold Obligations.TempArrives
  intro s b v x p read y warm cool hv1 hv2 hon
  rw [temp_reaches hon hv1 hv2]
  have hy : y = { x with
      thermal := read
      sweep := if x.thermal.stale = true then (x.holding .stale false).sweep else x.sweep } := by
    by_cases hst : x.thermal.stale = true
    · simp only [y, if_pos hst]; rfl
    · simp only [y, if_neg hst]
  refine ⟨fun hcut hstale => ?_, fun hcut hv => ⟨fun hs hl => ?_, fun hs hst hh hhv => ?_⟩⟩
  · have hfresh := freshened_stays (c := s.ctx b) (v := v) fun h1 h2 => by
      have h := hstale h1 h2
      rw [hy] at h
      exact (congrArg (fun z : Sweep => z.holds.isEmpty) (if_pos h1).symm).trans h
    refine ⟨fun hh hlt => ?_, fun hh hge => ?_, fun hh hge => ?_, fun hh hlt hstay => ?_⟩
    · refine next_leaves (notes := []) ((takeTemp_eq v _).trans ?_)
      rw [hfresh, evalHold_clear (v := v) rfl hh hlt, hy]
      exact cutoffActs_quiet (v := v) rfl hcut
    · refine next_leaves (notes := []) ((takeTemp_eq v _).trans ?_)
      rw [hfresh, evalHold_rises rfl hh hge, addCause_eq, raise_eq]
      refine (cutoffActs_quiet (v := v) ?_ ?_).trans ?_
      · rfl
      · exact hcut
      · simp only [warm]
        rw [hy]
        rfl
    · refine next_leaves (notes := []) ((takeTemp_eq v _).trans ?_)
      rw [hfresh, evalHold_set (v := v) rfl hh hge, hy]
      exact cutoffActs_quiet (v := v) rfl hcut
    · refine next_leaves (notes := []) ((takeTemp_eq v _).trans ?_)
      simp only [cool, hy] at hstay
      rw [hfresh, evalHold_falls rfl hh hlt, raise_eq, removeCause_stays _ _ (by exact hstay)]
      refine (cutoffActs_quiet (v := v) ?_ ?_).trans ?_
      · rfl
      · exact hcut
      · simp only [cool]
        rw [hy]
        rfl
  · obtain ⟨d, he, hdid, hprofile, hcutoff, htemp, hflag⟩ := takeTemp_faults (c := s.ctx b) hon hs hl hcut hv
    have hf := enterFault_faulted (o := .faulted) (by decide) d
    have hid : (takeTemp v (s.ctx b)).id = b := by rw [he]; exact hf.id.trans hdid
    have hflag' : (enterFault .faulted d).bay.unit.flag .tempCutoff = true := by
      rcases hf.unit with hu | hu <;> rw [hu]
      · exact hflag
      · exact EventUnit.flag_of_setFlag hflag _
    refine ⟨_, rfl, ?_⟩
    rw [onBay_bays b _ s hid, PerBay.get_set_same, he]
    exact ⟨hf.state, hf.command.trans (congrArg parkOutput hprofile), by rw [hf.thermal]; exact hcutoff,
      by rw [hf.thermal]; exact htemp, hf.inactive, hflag', hf.target, hf.profile.trans hprofile,
      fun a ha => PerBay.get_set_other _ ha _⟩
  · refine next_leaves (notes := []) ((takeTemp_eq v _).trans ?_)
    have hfresh : (s.ctx b).freshened v = (s.ctx b).tempRead v := if_neg (Bool.eq_false_iff.1 hst)
    rw [hfresh, evalHold_set (v := v) rfl hh (by
      have hge : p.holdTemp ≤ v := hhv
      exact (Int.sub_le_self _ (Int.natCast_nonneg _)).trans hge)]
    refine (cutoffActs_rises (c := (s.ctx b).tempRead v) rfl hcut hv).trans ((afterCutoff_stays ?_).trans ?_)
    · exact .inr (.inr (.inl hs))
    · have hs' : (s.bays.get b).ctrl.state = .fault := hs
      have hst' : (s.bays.get b).thermal.stale = false := hst
      simp only [Ctx.tempRead, Ctx.setThermal, State.ctx_bay, State.ctx_frames, State.ctx_id, hs', ← hst']
      rfl

/-! ### The last hold cause falls (R146) -/

/-- The bay as the boundary goes on at its step 3: the opening visit of an empty log, the inline visit of a due
trigger, or the planned visit in front. -/
def Bay.resumedBy (x : Bay) (id : Nat) (rest : List StepRec) (track : Nat) : Bay :=
  if x.meas.log = [] then x.visits .opening track
  else if x.isDue = true then x.flagged.visits .onTrigger track
  else ({ x with sweep := { x.sweep with plan := some (.probe id rest) } } : Bay).visits .planned track

section
variable (x : Bay) (id : Nat) (rest : List StepRec) (track : Nat)

theorem Bay.resumedBy_thermal : (x.resumedBy id rest track).thermal = x.thermal := by
  unfold Bay.resumedBy
  (repeat' split) <;> rfl

theorem Bay.resumedBy_profile : (x.resumedBy id rest track).profile = x.profile := by
  unfold Bay.resumedBy
  (repeat' split) <;> rfl

theorem Bay.resumedBy_unit (u : EventUnit) :
    ({ x with unit := u } : Bay).resumedBy id rest track = { x.resumedBy id rest track with unit := u } := by
  unfold Bay.resumedBy
  by_cases hlog : x.meas.log = []
  · simp only [if_pos hlog]
    rfl
  · by_cases hdue : x.isDue = true
    · simp only [if_neg hlog, if_pos hdue, if_pos (show ({ x with unit := u } : Bay).isDue = true from hdue)]
      rfl
    · simp only [if_neg hlog, if_neg hdue, if_neg (show ¬ ({ x with unit := u } : Bay).isDue = true from hdue)]
      rfl
end

/-- A HELD bay whose last cause leaves the set resumes at step 3 of the boundary (R146). -/
theorem removeCause_resumes {c : Ctx} {k : HoldCause} {z : Zone} {id : Nat} {rest : List StepRec}
    (hact : c.bay.sweep.active = true) (hs : c.bay.ctrl.state = .held)
    (hh : c.bay.sweep.holds.put k false = Holds.none)
    (hz : zoneGet c.bay.zones c.bay.profile.refZone = some z) (ht : z.track ≤ 524287)
    (hg : c.bay.meas.log = [] ∨ ({ c.bay with sweep := { c.bay.sweep with holds := Holds.none } } : Bay).isDue = true ∨
      c.bay.sweep.refNext id rest) :
    removeCause k c = { c with bay := ({ c.bay with
      sweep := { c.bay.sweep with holds := Holds.none } } : Bay).resumedBy id rest z.track } := by
  rw [removeCause, if_pos (show c.sweep.active = true from hact), show c.sweep.holds = c.bay.sweep.holds from rfl, hh,
    resumeIfFree_resumes (by exact hs) (by rfl), boundaryFrom3_visits (by rfl) (by exact hz) ht (by exact hg)]
  rfl

/-- A cutoff level that is clear and stays so changes nothing (R157). -/
theorem cutoffActs_clear {c : Ctx} {v : Int} (ht : c.bay.thermal.temp = some v) (hc : c.bay.thermal.cutoff = false)
    (hv : v < c.bay.profile.cutoffTemp) : c.cutoffActs = c := by
  have hsame : (c.bay.thermal.cutoff && decide (c.bay.profile.cutoffTemp - c.bay.profile.hyst ≤ v)) =
      c.bay.thermal.cutoff := by rw [hc, Bool.false_and]
  rw [cutoffActs_quiet ht fun _ => hv, hsame]
  rfl

/-- Settles O21, by the last cause's fall and the boundary's step 3. -/
theorem lastCauseResumes : Obligations.LastCauseResumes := by
  unfold Obligations.LastCauseResumes
  intro s b z v id rest x p read freed goesOn resumed hs hact hz ht
  have hon : x.ctrl.state ≠ .offline := by rw [hs]; decide
  have hresumed (th : Thermal) : resumed th = (freed th).resumedBy id rest z.track := rfl
  refine ⟨fun hv1 hv2 hcut hv => ⟨fun hst hh hlt hholds hd hg => ?_, fun hst hh hlt hholds hg => ?_⟩,
    fun hl ha hholds hg => ?_⟩
  · rw [temp_reaches hon hv1 hv2]
    refine next_leaves (notes := []) ((takeTemp_eq v _).trans ?_)
    have hfresh : (s.ctx b).freshened v = (s.ctx b).tempRead v := if_neg (Bool.eq_false_iff.1 hst)
    have hraise : raise (.tempClear v (p.holdTemp - p.hyst)) ((s.ctx b).tempRead v) =
        ⟨b, { x with thermal := read, unit := x.unit.setFlag .tempClear },
          x.unit.offers b (.tempClear v (p.holdTemp - p.hyst)), [], []⟩ := by
      rw [raise_eq, Bay.raising, if_neg fun h => hd h.1]
      rfl
    have hfalls := evalHold_falls (c := (s.ctx b).tempRead v) (v := v) rfl hh hlt
    rw [show raise (.tempClear v (((s.ctx b).tempRead v).bay.profile.holdTemp -
      ((s.ctx b).tempRead v).bay.profile.hyst)) ((s.ctx b).tempRead v) = _ from hraise] at hfalls
    rw [hfresh, hfalls, removeCause_resumes (z := z) (id := id) (rest := rest) hact hs (by exact congrArg (fun h : Holds => h.put .thermal false) hholds) hz ht hg]
    rw [cutoffActs_clear (v := v) (by rw [Bay.resumedBy_thermal]; rfl) (by rw [Bay.resumedBy_thermal]; exact hcut)
      (by rw [Bay.resumedBy_profile]; exact hv), hresumed, ← Bay.resumedBy_unit]
    rfl
  · rw [temp_reaches hon hv1 hv2]
    refine next_leaves (notes := []) ((takeTemp_eq v _).trans ?_)
    have hfresh : (s.ctx b).freshened v = removeCause .stale ((s.ctx b).tempRead v) := if_pos hst
    rw [hfresh, removeCause_resumes (z := z) (id := id) (rest := rest) hact hs (by exact congrArg (fun h : Holds => h.put .stale false) hholds) hz ht hg,
      evalHold_clear (v := v) (by rw [Bay.resumedBy_thermal]; rfl) (by rw [Bay.resumedBy_thermal]; exact hh)
        (by rw [Bay.resumedBy_profile]; exact hlt),
      cutoffActs_clear (v := v) (by rw [Bay.resumedBy_thermal]; rfl) (by rw [Bay.resumedBy_thermal]; exact hcut)
        (by rw [Bay.resumedBy_profile]; exact hv), hresumed]
    rfl
  · rw [fault_reaches _ hon]
    refine next_leaves (notes := []) ((takeFault_falls_hold (c := s.ctx b) hl ha).trans ?_)
    rw [removeCause_resumes (z := z) (id := id) (rest := rest) hact hs (by exact congrArg (fun h : Holds => h.put .faultLine false) hholds) hz ht hg,
      hresumed]
    rfl

end Sys2Proof.Machine

namespace Sys2Proof.Machine

/-! SUPPORT. Bits through the checker, and what a capture's end does (R110, R114, R119, R120, R124), and
statement O18. -/

/-! ### Bits through the checker leave the rest of the bay -/

/-- `d` differs from `c` at most in the checker and its counts, the event unit, the hold causes and the frames
offered. -/
def Ctx.fedTo (c d : Ctx) : Prop := ∃ p u h fr, d = { c with
    bay := { c.bay with pattern := p, unit := u, sweep := { c.bay.sweep with holds := h } }
    frames := fr } ∧
  p.gen = c.bay.pattern.gen ∧ p.selfCheck = c.bay.pattern.selfCheck ∧ p.write = c.bay.pattern.write ∧
  p.loopBuffer = c.bay.pattern.loopBuffer ∧ p.capture = c.bay.pattern.capture

theorem fedTo_refl (c : Ctx) : c.fedTo c := ⟨_, _, _, _, rfl, rfl, rfl, rfl, rfl, rfl⟩

theorem fedTo_trans {c d e : Ctx} (h : c.fedTo d) (h' : d.fedTo e) : c.fedTo e := by
  obtain ⟨p, _, _, _, rfl, h1, h2, h3, h4, h5⟩ := h
  obtain ⟨_, _, _, _, rfl, g1, g2, g3, g4, g5⟩ := h'
  exact ⟨_, _, _, _, rfl, g1.trans h1, g2.trans h2, g3.trans h3, g4.trans h4, g5.trans h5⟩

theorem fedTo_setPattern (c : Ctx) {p : Pattern} (h1 : p.gen = c.bay.pattern.gen)
    (h2 : p.selfCheck = c.bay.pattern.selfCheck) (h3 : p.write = c.bay.pattern.write)
    (h4 : p.loopBuffer = c.bay.pattern.loopBuffer) (h5 : p.capture = c.bay.pattern.capture) : c.fedTo (c.setPattern p) :=
  ⟨_, _, _, _, rfl, h1, h2, h3, h4, h5⟩

theorem fedTo_raise (c : Ctx) (e : Details) : c.fedTo (raise e c) := by
  rw [raise_eq, Bay.raising]
  split
  · exact ⟨_, _, _, _, rfl, rfl, rfl, rfl, rfl, rfl⟩
  · exact ⟨_, _, _, _, rfl, rfl, rfl, rfl, rfl, rfl⟩

theorem fedTo_lockedBit (bit : Bool) (c : Ctx) : c.fedTo (lockedBit bit c) := by
  have hcompared : c.fedTo (c.setPattern (c.pattern.compareBit bit)) := fedTo_setPattern c rfl rfl rfl rfl rfl
  have hcounted : c.fedTo (if c.pattern.running.mismatches < 65535 ∧
      (c.pattern.compareBit bit).running.mismatches = 65535 then
        raise (.countSaturated (c.setPattern (c.pattern.compareBit bit)).ctrl.selHead
          (c.pattern.compareBit bit).running.checked) (c.setPattern (c.pattern.compareBit bit))
      else c.setPattern (c.pattern.compareBit bit)) := by
    split
    · exact fedTo_trans hcompared (fedTo_raise _ _)
    · exact hcompared
  have htested : c.fedTo ((if c.pattern.running.mismatches < 65535 ∧
      (c.pattern.compareBit bit).running.mismatches = 65535 then
        raise (.countSaturated (c.setPattern (c.pattern.compareBit bit)).ctrl.selHead
          (c.pattern.compareBit bit).running.checked) (c.setPattern (c.pattern.compareBit bit))
      else c.setPattern (c.pattern.compareBit bit)).setPattern (c.pattern.compareBit bit).testWindow.1) := by
    obtain ⟨p, u, h, fr, e, _⟩ := hcounted
    rw [e]
    have hfields : (c.pattern.compareBit bit).testWindow.1.gen = c.bay.pattern.gen ∧
        (c.pattern.compareBit bit).testWindow.1.selfCheck = c.bay.pattern.selfCheck ∧
        (c.pattern.compareBit bit).testWindow.1.write = c.bay.pattern.write ∧
        (c.pattern.compareBit bit).testWindow.1.loopBuffer = c.bay.pattern.loopBuffer ∧
        (c.pattern.compareBit bit).testWindow.1.capture = c.bay.pattern.capture := by
      unfold Pattern.testWindow
      (repeat' split) <;> exact ⟨rfl, rfl, rfl, rfl, rfl⟩
    exact ⟨_, u, h, fr, rfl, hfields⟩
  unfold lockedBit
  simp only
  split
  · exact fedTo_trans htested (fedTo_raise _ _)
  · exact htested

theorem fedTo_feedBit (c : Ctx) (bit : Bool) : c.fedTo (feedBit c bit) := by
  unfold feedBit
  split
  · exact fedTo_setPattern c rfl rfl rfl rfl rfl
  · refine fedTo_setPattern c ?_ ?_ ?_ ?_ ?_ <;>
    · unfold Pattern.checkBit
      simp only
      (repeat' split) <;> rfl
  · exact fedTo_lockedBit bit c

/-- The bits of a block change the checker, its counts, flags and hold causes at most (R111 to R113). -/
theorem fedTo_feedBits (bits : List Bool) (c : Ctx) : c.fedTo (feedBits bits c) := by
  induction bits generalizing c with
  | nil => exact fedTo_refl c
  | cons bit bits ih => exact fedTo_trans (fedTo_feedBit c bit) (ih _)

/-! ### The capture's end (R114, R119, R120, R124) -/

section
variable {c : Ctx}

/-- MOVE of a position begins (R119). -/
theorem beginMove_eq (w : Work) (k : Nat) : beginMove w k c = { c with
    bay := c.bay.seeks { w with phase := .move k }
      (clampTarget ((jobZone w.job c).centre + (jobZone w.job c).scanOffset k)) } := rfl

/-- The result of a position whose capture has received blocks (R114). -/
theorem result_received {p : Pattern} {n : Nat} (h : n ≠ 0) :
    p.result n = if p.checker = .locked then .count p.posMismatches else .noLock := if_neg h

/-- A capture ends with positions left (R120). -/
theorem readEnds_moves {w : Work} {k : Nat} (h : k + 1 < (jobZone w.job c).positions) : readEnds w k c = { c with
    bay := ({ c.bay with pattern := { c.bay.pattern with capture := none } } : Bay).seeks { w with
      phase := .move (k + 1), results := w.results ++ [c.bay.pattern.result c.bay.pattern.received] }
      (clampTarget ((jobZone w.job c).centre + (jobZone w.job c).scanOffset (k + 1))) } := by
  unfold readEnds
  simp only
  rw [if_pos h]
  rfl

/-- The return LOOP_SWITCH of a head other than ref_head begins (R124). -/
theorem beginReturnSwitch_other {w : Work} {x : JogPart} (hs : c.bay.ctrl.selHead = c.bay.ctrl.loopHead)
    (hr : c.bay.profile.refHead ≠ c.bay.ctrl.loopHead) : beginReturnSwitch w x c = { c with
    bay := ({ c.bay with
      ctrl := { c.bay.ctrl with targetFinal := some (clampTarget (jobZone w.job c).centre) }
      pattern := { c.bay.pattern with write := none, capture := none }
      sweep := { c.bay.sweep with
        phaseLimit := 0, work := some { w with phase := .loopSwitchBack, formed := some x } } } : Bay).onHead
          c.bay.profile.refHead
    records := c.records ++ [.head c.bay.profile.refHead] } := by
  unfold beginReturnSwitch
  simp only
  rw [if_neg fun h => hr h.1]
  rw [setLoopHead_eq (nameTarget (jobZone w.job c).centre (endWrite (closeCapture c))) hs (by exact hr)]
  rfl

/-- The last capture of a scan ends it, its head being another than ref_head (R120, R124). -/
theorem readEnds_scan {w : Work} {k : Nat} (h : (jobZone w.job c).positions ≤ k + 1)
    (hs : c.bay.ctrl.selHead = c.bay.ctrl.loopHead) (hr : c.bay.profile.refHead ≠ c.bay.ctrl.loopHead) :
    readEnds w k c = { c with
    bay := ({ c.bay with
      ctrl := { c.bay.ctrl with targetFinal := some (clampTarget (jobZone w.job c).centre) }
      pattern := { c.bay.pattern with write := none, capture := none }
      sweep := { c.bay.sweep with
        phaseLimit := 0
        work := some { w with
          phase := .loopSwitchBack, results := w.results ++ [c.bay.pattern.result c.bay.pattern.received]
          formed := some (evaluateScan c.bay.profile (jobZone w.job c)
            (w.results ++ [c.bay.pattern.result c.bay.pattern.received]) c.bay.sweep.number w.seq w.temp) } } } :
              Bay).onHead c.bay.profile.refHead
    records := c.records ++ [.head c.bay.profile.refHead] } := by
  unfold readEnds
  simp only
  rw [if_neg (by omega)]
  exact beginReturnSwitch_other (c := closeCapture c) hs hr
end

/-! ### READBACK and WRITE_DONE (R109, R110) -/

section
variable {s : State} {b : BayIx}

theorem readback_reaches {bits : List Bool} (hon : (s.bays.get b).ctrl.state ≠ .offline) (h1 : 1 ≤ bits.length)
    (h2 : bits.length ≤ 256) : exec (.readback b bits) s = .next (onBay b (takeReadback bits) s) := by
  have h : reaches b (.readback bits) s = true := by
    simp [reaches, offline_eq_false hon, InRecord.wellFormed, h1, h2]
  simp only [exec, execReadback, h, if_true]

theorem writeDone_reaches (hon : (s.bays.get b).ctrl.state ≠ .offline) :
    exec (.writeDone b) s = .next (onBay b takeWriteDone s) := by
  have h : reaches b .writeDone s = true := by
    simp [reaches, offline_eq_false hon, InRecord.wellFormed]
  simp only [exec, execWriteDone, h, if_true]
end

section
variable {c : Ctx} {bits : List Bool} {cap : Capture} {w : Work} {k : Nat}

/-- The bay at work once an open capture has taken a block (R110). -/
def Ctx.blockTaken (c : Ctx) (bits : List Bool) (cap : Capture) : Ctx :=
  (feedBits bits c).setPattern { (feedBits bits c).bay.pattern with
    capture := some { cap with received := cap.received + 1 } }

theorem takeReadback_open (hcap : c.bay.pattern.capture = some cap) :
    takeReadback bits c = endIfComplete (c.blockTaken bits cap) := by
  obtain ⟨p, u, h, fr, e, _, _, _, _, hc⟩ := fedTo_feedBits bits c
  have hfed : (feedBits bits c).pattern.capture = some cap := by
    rw [e]
    exact hc.trans hcap
  simp only [takeReadback, show c.pattern.capture = some cap from hcap, takeBlock, hfed]
  rfl

theorem takeReadback_closed (hcap : c.bay.pattern.capture = none) : takeReadback bits c = c := by
  simp only [takeReadback, show c.pattern.capture = none from hcap]

/-- A capture with more blocks expected goes on (R110). -/
theorem endIfComplete_goes_on (hc : c.bay.pattern.capture = some cap) (h : cap.received < cap.expected) :
    endIfComplete c = c := by
  unfold endIfComplete
  rw [show c.pattern.capture = some cap from hc]
  split
  · rename_i hcap _
    cases hcap
    split
    · rw [if_neg (by omega)]
    · rfl
  · rfl

/-- A capture whose last expected block has arrived ends (R110, R120). -/
theorem endIfComplete_ends (hc : c.bay.pattern.capture = some cap) (hw : c.bay.sweep.work = some w)
    (hp : w.phase = .read k) (h : cap.expected ≤ cap.received) : endIfComplete c = readEnds w k c := by
  unfold endIfComplete
  simp only [show c.pattern.capture = some cap from hc, show c.sweep.work = some w from hw, hp, if_pos h]

theorem takeWriteDone_none (h : c.bay.pattern.write = none) : takeWriteDone c = c := by
  simp only [takeWriteDone, show c.pattern.write = none from h]

/-- WRITE_DONE ends the outstanding write of WRITE_PASS (R109, R119). -/
theorem takeWriteDone_passes {n : Nat} (h : c.bay.pattern.write = some n) (hw : c.bay.sweep.work = some w)
    (hp : w.phase = .writePass) : takeWriteDone c = beginMove w 0 (endWrite c) := by
  simp only [takeWriteDone, show c.pattern.write = some n from h, passEnds,
    show (endWrite c).sweep.work = some w from hw, hp]
end

/-- Position 0 lies half the span below the centre. -/
theorem scanOffset_zero (z : Zone) : z.scanOffset 0 = -(z.halfSpan : Int) := by
  simp [Zone.scanOffset]

/-- Settles O18, by what the checker leaves and how a capture ends. -/
theorem patternRecordsArrive : Obligations.PatternRecordsArrive := by
  unfold Obligations.PatternRecordsArrive
  refine ⟨?_, ?_⟩
  · intro s b bits cap w k x h1 h2 hon
    rw [readback_reaches hon h1 h2]
    refine ⟨fun hcap => ?_, fun hcap hw hp => ?_⟩
    · refine congrArg Host.Outcome.next ?_
      unfold onBay
      rw [show takeReadback bits (s.ctx b) = s.ctx b from takeReadback_closed hcap]
      exact commit_ctx s b
    · intro fed
      obtain ⟨p, u, hh, fr, e, _, _, _, _, hc⟩ := fedTo_feedBits bits (s.ctx b)
      have hfed : fed = _ := e
      have hfedcap : fed.bay.pattern.capture = some cap := by rw [hfed]; exact hc.trans hcap
      have hfedwork : fed.bay.sweep.work = some w := by rw [hfed]; exact hw
      refine ⟨⟨hfedwork, hfedcap⟩, fun hmore => ?_, fun hlast hk => ?_⟩
      · refine next_leaves (notes := []) ((takeReadback_open hcap).trans
          ((endIfComplete_goes_on rfl hmore).trans ?_))
        rw [Ctx.blockTaken, show feedBits bits (s.ctx b) = fed from rfl, hfed]
        rfl
      · have hends : takeReadback bits (s.ctx b) = readEnds w k ((s.ctx b).blockTaken bits cap) :=
          (takeReadback_open hcap).trans (endIfComplete_ends rfl hfedwork hp hlast.le)
        have hzone : jobZone w.job ((s.ctx b).blockTaken bits cap) = jobZone w.job (s.ctx b) := by
          rw [Ctx.blockTaken, show feedBits bits (s.ctx b) = fed from rfl, hfed]
          rfl
        refine next_leaves (notes := []) (hends.trans ((readEnds_moves (by rw [hzone]; exact hk)).trans ?_))
        rw [hzone, show ((s.ctx b).blockTaken bits cap).bay.pattern.received = cap.received + 1 from rfl,
          result_received (Nat.succ_ne_zero _), Ctx.blockTaken, show feedBits bits (s.ctx b) = fed from rfl, hfed]
        rfl
  · intro s b n w x z hon
    rw [writeDone_reaches hon]
    refine ⟨fun hwr => ?_, fun hwr hw hp => ?_⟩
    · refine congrArg Host.Outcome.next ?_
      unfold onBay
      rw [show takeWriteDone (s.ctx b) = s.ctx b from takeWriteDone_none hwr]
      exact commit_ctx s b
    · refine next_leaves (notes := []) ((takeWriteDone_passes hwr hw hp).trans ((beginMove_eq w 0).trans ?_))
      rw [scanOffset_zero, ← Int.sub_eq_add_neg]
      rfl

end Sys2Proof.Machine

namespace Sys2Proof.Machine

/-! SUPPORT. The evaluation of a scan (R121 to R123): the runs of passing positions, the run chosen, and
statement O46. -/

/-! ### The runs of passing positions (R121) -/

/-- The positions from `a` to `b` are a run of those that `P` holds of, and no longer one is around it. -/
def isRun (P : Nat → Prop) (a b : Nat) : Prop :=
  a ≤ b ∧ (∀ k, a ≤ k → k ≤ b → P k) ∧ (a = 0 ∨ ¬ P (a - 1)) ∧ ¬ P (b + 1)

section
variable {P : Nat → Prop}

theorem isRun_first {a b : Nat} (h : isRun P a b) : P a := h.2.1 a (Nat.le_refl a) h.1

/-- No run begins behind a passing position. -/
theorem isRun_not_after {a b : Nat} (h : isRun P a b) (ha : 0 < a) : ¬ P (a - 1) :=
  h.2.2.1.resolve_left (Nat.pos_iff_ne_zero.1 ha)

/-- A run under way since `s` that `k` does not go on ends at `k - 1`. -/
theorem isRun_under_way {s k : Nat} (hs : s < k) (hp : ∀ j, s ≤ j → j < k → P j) (hb : s = 0 ∨ ¬ P (s - 1))
    (hk : ¬ P k) (b : Nat) : isRun P s b ↔ b = k - 1 := by
  constructor
  · rintro ⟨hsb, hall, _, hend⟩
    have h1 : ¬ b + 1 < k := fun h => hend (hp _ (by omega) h)
    have h2 : ¬ k ≤ b := fun h => hk (hall k hs.le h)
    omega
  · rintro rfl
    refine ⟨by omega, fun j h1 h2 => hp j h1 (by omega), hb, ?_⟩
    rw [Nat.sub_add_cancel (by omega)]
    exact hk

/-- Where the evaluation stands at position `k`: no run under way, or one since `s`. -/
def standsAt (P : Nat → Prop) (k : Nat) : Option Nat → Prop
  | none => k = 0 ∨ ¬ P (k - 1)
  | some s => s < k ∧ (∀ j, s ≤ j → j < k → P j) ∧ (s = 0 ∨ ¬ P (s - 1))

/-- The runs found from position `k` on are those that begin there or later, and the one under way. -/
theorem mem_runsFrom {bs : List Bool} {k : Nat} {start : Option Nat} (hP : ∀ j, P (k + j) ↔ bs[j]? = some true)
    (hs : standsAt P k start) (a b : Nat) :
    (a, b) ∈ runsFrom k start bs ↔ isRun P a b ∧ (start = some a ∨ k ≤ a) := by
  induction bs generalizing k start with
  | nil =>
    have hnone : ∀ j, ¬ P (k + j) := fun j => by simp [hP j]
    have hlater (h : isRun P a b) : ¬ k ≤ a := fun hk => hnone (a - k) (by
      rw [show k + (a - k) = a by omega]
      exact isRun_first h)
    cases start with
    | none => simpa [runsFrom] using fun h => Nat.lt_of_not_le (hlater h)
    | some s =>
      obtain ⟨hsk, hp, hb⟩ := hs
      have hway := isRun_under_way hsk hp hb (hnone 0)
      simp only [runsFrom, List.mem_singleton, Prod.mk.injEq, Option.some.injEq]
      constructor
      · rintro ⟨rfl, rfl⟩
        exact ⟨(hway _).2 rfl, .inl rfl⟩
      · rintro ⟨hr, rfl | hk⟩
        · exact ⟨rfl, (hway _).1 hr⟩
        · exact absurd hk (hlater hr)
  | cons bit rest ih =>
    have hrest : ∀ j, P (k + 1 + j) ↔ rest[j]? = some true := fun j => by
      rw [show k + 1 + j = k + (j + 1) by omega, hP (j + 1)]
      simp
    have hk : P k ↔ bit = true := by simpa using hP 0
    have hnot (hr : isRun P a b) (hbit : ¬ P k) : a ≠ k := by
      rintro rfl
      exact hbit (isRun_first hr)
    cases start with
    | none =>
      cases hbit : bit with
      | true =>
        have hPk := hk.2 hbit
        rw [runsFrom, ih (start := some k) hrest ⟨Nat.lt_succ_self k, fun j h1 h2 => by rwa [show j = k by omega], hs⟩]
        simp only [Option.some.injEq, reduceCtorEq, false_or]
        exact and_congr_right fun _ => by omega
      | false =>
        have hPk : ¬ P k := fun h => by simp [hk.1 h] at hbit
        rw [runsFrom, ih (start := none) hrest (Or.inr hPk)]
        simp only [reduceCtorEq, false_or]
        exact and_congr_right fun hr => by have := hnot hr hPk; omega
    | some s =>
      obtain ⟨hsk, hp, hb⟩ := hs
      cases hbit : bit with
      | true =>
        have hPk := hk.2 hbit
        rw [runsFrom, ih (start := some s) hrest ⟨by omega, fun j h1 h2 => by
          by_cases hj : j = k
          · rwa [hj]
          · exact hp j h1 (by omega), hb⟩]
        refine and_congr_right fun hr => or_congr_right ?_
        have hak : a ≠ k := by
          rintro rfl
          exact isRun_not_after hr (by omega) (hp _ (by omega) (by omega))
        omega
      | false =>
        have hPk : ¬ P k := fun h => by simp [hk.1 h] at hbit
        have hway := isRun_under_way hsk hp hb hPk
        rw [runsFrom, List.mem_cons, ih (start := none) hrest (Or.inr hPk)]
        simp only [Prod.mk.injEq, Option.some.injEq, reduceCtorEq, false_or]
        constructor
        · rintro (⟨rfl, rfl⟩ | ⟨hr, hle⟩)
          · exact ⟨(hway _).2 rfl, .inl rfl⟩
          · exact ⟨hr, .inr (by omega)⟩
        · rintro ⟨hr, rfl | hle⟩
          · exact .inl ⟨rfl, (hway _).1 hr⟩
          · exact .inr ⟨hr, by have := hnot hr hPk; omega⟩
end

theorem runsFrom_some_ne_nil (bs : List Bool) (k s : Nat) : runsFrom k (some s) bs ≠ [] := by
  induction bs generalizing k with
  | nil => simp [runsFrom]
  | cons bit rest ih =>
    cases bit
    · simp [runsFrom]
    · exact ih _

/-- A passing position is in some run. -/
theorem runsFrom_ne_nil {bs : List Bool} {j : Nat} (h : bs[j]? = some true) (k : Nat) : runsFrom k none bs ≠ [] := by
  induction bs generalizing k j with
  | nil => simp at h
  | cons bit rest ih =>
    cases bit with
    | true => exact runsFrom_some_ne_nil rest _ _
    | false =>
      cases j with
      | zero => simp at h
      | succ j => exact ih (by simpa using h) _

/-! ### The run chosen (R122) -/

/-- What it is for run `a` to be chosen before run `b`. -/
theorem runBefore_iff (z : Zone) (a b : Nat × Nat) : runBefore z a b = true ↔ b.2 - b.1 < a.2 - a.1 ∨
    (a.2 - a.1 = b.2 - b.1 ∧ ((runSum z a).natAbs < (runSum z b).natAbs ∨
      ((runSum z a).natAbs = (runSum z b).natAbs ∧ runSum z a < runSum z b))) := by
  simp [runBefore]

/-- The run chosen is one of the runs, and none is before it. -/
theorem chooseRun_best {z : Zone} {l : List (Nat × Nat)} {r : Nat × Nat} (h : chooseRun z l = some r) :
    r ∈ l ∧ ∀ q ∈ l, ¬ runBefore z q r = true := by
  induction l generalizing r with
  | nil => simp [chooseRun] at h
  | cons p rest ih =>
    have irrefl (q : Nat × Nat) : ¬ runBefore z q q = true := by
      rw [runBefore_iff]
      omega
    unfold chooseRun at h
    cases hrest : chooseRun z rest with
    | none =>
      have hnil : rest = [] := by
        cases rest with
        | nil => rfl
        | cons q more =>
          unfold chooseRun at hrest
          split at hrest <;> simp at hrest
      rw [hrest] at h
      cases h
      subst hnil
      exact ⟨List.mem_singleton_self _, fun q hq => List.mem_singleton.1 hq ▸ irrefl _⟩
    | some best =>
      rw [hrest] at h
      obtain ⟨hmem, hnone⟩ := ih hrest
      by_cases hb : runBefore z best p = true
      · have hr : best = r := by simpa [hb] using h
        subst hr
        refine ⟨List.mem_cons_of_mem _ hmem, fun q hq => ?_⟩
        rcases List.mem_cons.1 hq with rfl | hq
        · rw [runBefore_iff] at hb ⊢
          omega
        · exact hnone q hq
      · have hr : p = r := by simpa [hb] using h
        subst hr
        refine ⟨List.mem_cons_self, fun q hq => ?_⟩
        rcases List.mem_cons.1 hq with rfl | hq
        · exact irrefl _
        · have hq' := hnone q hq
          rw [runBefore_iff] at hb hq' ⊢
          omega

theorem chooseRun_none {z : Zone} {l : List (Nat × Nat)} (h : chooseRun z l = none) : l = [] := by
  cases l with
  | nil => rfl
  | cons q more =>
    unfold chooseRun at h
    split at h <;> simp at h

/-- Two runs of the same midpoint, their positions apart, begin and end at the same sum. -/
theorem scanOffset_sum_inj {z : Zone} (h : 0 < z.scanStep) {a b c d : Nat}
    (e : z.scanOffset a + z.scanOffset b = z.scanOffset c + z.scanOffset d) : a + b = c + d := by
  have hmul : (a + b) * z.scanStep = (c + d) * z.scanStep := by
    rw [Nat.add_mul, Nat.add_mul]
    simp only [Zone.scanOffset] at e
    omega
  exact Nat.eq_of_mul_eq_mul_right h hmul

/-! ### The part a scan gives (R123) -/

/-- The midpoint of two positions, an exact half going away from 0. -/
theorem roundHalfAway_two (a : Int) : roundHalfAway a 2 = a.tdiv 2 + a.tmod 2 := by
  unfold roundHalfAway
  split
  · rw [Int.tdiv_eq_ediv_of_nonneg ‹_›, Int.tmod_eq_emod_of_nonneg ‹_›]
    omega
  · obtain ⟨n, rfl⟩ : ∃ n : Int, a = -n := ⟨-a, by omega⟩
    rw [Int.neg_tdiv, Int.neg_tmod, Int.tdiv_eq_ediv_of_nonneg (by omega), Int.tmod_eq_emod_of_nonneg (by omega)]
    omega

section
variable {p : Profile} {z : Zone} {results : List PosResult} {sweep : Nat} {seq : Option Nat} {temp : Option Int}

/-- Whether the result of position `k` passes (R121). -/
def passesAt (p : Profile) (results : List PosResult) (k : Nat) : Prop :=
  ∃ m, results[k]? = some (.count m) ∧ m ≤ p.passLimit

/-- The runs of passing positions of a scan. -/
def scanRuns (p : Profile) (results : List PosResult) : List (Nat × Nat) :=
  runsFrom 0 none (results.map (PosResult.passes p.passLimit))

theorem passesAt_iff (k : Nat) :
    passesAt p results k ↔ (results.map (PosResult.passes p.passLimit))[k]? = some true := by
  rw [List.getElem?_map]
  unfold passesAt
  cases hr : results[k]? with
  | none => simp
  | some r => cases r <;> simp [PosResult.passes]

theorem mem_scanRuns (a b : Nat) : (a, b) ∈ scanRuns p results ↔ isRun (passesAt p results) a b := by
  rw [scanRuns, mem_runsFrom (P := passesAt p results) (start := none)
    (fun j => by rw [Nat.zero_add]; exact passesAt_iff j) (Or.inl rfl)]
  simp

/-- Every part of a scan carries its profile and the step's stamps. -/
theorem evaluateScan_stamps : (evaluateScan p z results sweep seq temp).profile =
      some ⟨z.scanStep, -(z.halfSpan : Int), results⟩ ∧
    (evaluateScan p z results sweep seq temp).sweep = sweep ∧
    (evaluateScan p z results sweep seq temp).seq = seq ∧ (evaluateScan p z results sweep seq temp).temp = temp := by
  unfold evaluateScan
  simp only
  (repeat' split) <;> exact ⟨rfl, rfl, rfl, rfl⟩

theorem evaluateScan_missing (h : ∀ r ∈ results, r = .missing) : evaluateScan p z results sweep seq temp =
    ⟨.failed, some .noReadback, none, some ⟨z.scanStep, -(z.halfSpan : Int), results⟩, sweep, seq, temp⟩ := by
  have hall : results.all (· == .missing) = true := by simpa using h
  simp only [evaluateScan, hall, if_true]

theorem evaluateScan_no_pass (h : ∃ r ∈ results, r ≠ .missing) (hr : chooseRun z (scanRuns p results) = none) :
    evaluateScan p z results sweep seq temp =
    ⟨.failed, some .noPass, none, some ⟨z.scanStep, -(z.halfSpan : Int), results⟩, sweep, seq, temp⟩ := by
  have hall : ¬ results.all (· == .missing) = true := by simpa using h
  unfold scanRuns at hr
  simp only [evaluateScan, if_neg hall, hr]

/-- The part that the chosen run gives (R123). -/
theorem evaluateScan_run {a b : Nat} (hr : chooseRun z (scanRuns p results) = some (a, b)) :
    (evaluateScan p z results sweep seq temp).jog = some (roundHalfAway (z.scanOffset a + z.scanOffset b) 2,
      (z.scanOffset b - z.scanOffset a).toNat + z.scanStep) ∧
    ((z.scanOffset b - z.scanOffset a).toNat + z.scanStep < p.minWindow →
      (evaluateScan p z results sweep seq temp).status = .suspect ∧
        (evaluateScan p z results sweep seq temp).cause = some .narrowWindow) ∧
    (p.minWindow ≤ (z.scanOffset b - z.scanOffset a).toNat + z.scanStep → a = 0 ∨ b + 1 = results.length →
      (evaluateScan p z results sweep seq temp).status = .suspect ∧
        (evaluateScan p z results sweep seq temp).cause = some .edgeRun) ∧
    (p.minWindow ≤ (z.scanOffset b - z.scanOffset a).toNat + z.scanStep → a ≠ 0 → b + 1 ≠ results.length →
      (evaluateScan p z results sweep seq temp).status = .good ∧
        (evaluateScan p z results sweep seq temp).cause = none) := by
  have hall : ¬ results.all (· == .missing) = true := by
    intro h
    have hrun := (mem_scanRuns a b).1 (chooseRun_best hr).1
    obtain ⟨m, hm, _⟩ := isRun_first hrun
    have := List.all_eq_true.1 h _ (List.mem_of_getElem? hm)
    simp at this
  unfold scanRuns at hr
  simp only [evaluateScan, if_neg hall, hr]
  split
  · exact ⟨rfl, fun _ => ⟨rfl, rfl⟩, fun h => absurd h (by omega), fun h => absurd h (by omega)⟩
  · split
    · exact ⟨rfl, fun h => absurd h ‹_›, fun _ _ => ⟨rfl, rfl⟩, fun _ h1 h2 => absurd ‹_› (not_or.2 ⟨h1, h2⟩)⟩
    · exact ⟨rfl, fun h => absurd h ‹_›, fun _ h => absurd h ‹_›, fun _ _ _ => ⟨rfl, rfl⟩⟩
end

/-- Settles O46: a run beats all others exactly when the model chooses it, and the last block ends the scan. -/
theorem scanIsEvaluated : Obligations.ScanIsEvaluated := by
  unfold Obligations.ScanIsEvaluated
  refine ⟨?_, ?_⟩
  · intro p z results sweep seq temp part passes run pos best
    have hpos (k : Nat) : pos k = z.scanOffset k := by
      simp only [pos, Zone.scanOffset, Zone.halfSpan, Zone.halfSteps]
      omega
    have hrun (a b : Nat) : run a b ↔ (a, b) ∈ scanRuns p results := (mem_scanRuns a b).symm
    have hbeats (q r : Nat × Nat) : runBefore z q r = true ↔ r.2 - r.1 < q.2 - q.1 ∨
        (r.2 - r.1 = q.2 - q.1 ∧ ((pos q.1 + pos q.2).natAbs < (pos r.1 + pos r.2).natAbs ∨
          ((pos q.1 + pos q.2).natAbs = (pos r.1 + pos r.2).natAbs ∧ pos q.1 + pos q.2 < pos r.1 + pos r.2))) := by
      rw [runBefore_iff]
      simp only [runSum, hpos]
      omega
    refine ⟨?_, fun h => ?_, fun h hn => ?_, fun hstep h => ?_, fun a b hbest => ?_⟩
    · have hzero : pos 0 = -(z.halfSpan : Int) := (hpos 0).trans (scanOffset_zero z)
      rw [hzero]
      exact evaluateScan_stamps
    · rw [show part = _ from evaluateScan_missing h]
      exact ⟨rfl, rfl, rfl⟩
    · have hnone : chooseRun z (scanRuns p results) = none := by
        cases hc : chooseRun z (scanRuns p results) with
        | none => rfl
        | some r => exact absurd (isRun_first ((mem_scanRuns r.1 r.2).1 (chooseRun_best hc).1)) (hn r.1)
      rw [show part = _ from evaluateScan_no_pass h hnone]
      exact ⟨rfl, rfl, rfl⟩
    · obtain ⟨k, hk⟩ := h
      cases hc : chooseRun z (scanRuns p results) with
      | none => exact absurd (chooseRun_none hc) (runsFrom_ne_nil ((passesAt_iff k).1 hk) 0)
      | some r =>
        obtain ⟨hmem, hnone⟩ := chooseRun_best hc
        refine ⟨r.1, r.2, (hrun _ _).2 hmem, fun c d hcd => ?_⟩
        have hnot := hnone _ ((hrun c d).1 hcd)
        rw [hbeats] at hnot
        have hle : r.1 ≤ r.2 := ((hrun r.1 r.2).2 hmem).1
        have hle' : c ≤ d := hcd.1
        have hsame := scanOffset_sum_inj hstep (a := r.1) (b := r.2) (c := c) (d := d)
        rw [← hpos, ← hpos, ← hpos, ← hpos] at hsame
        dsimp only at hnot
        by_cases heq : pos r.1 + pos r.2 = pos c + pos d
        · have := hsame heq
          omega
        · omega
    · cases hc : chooseRun z (scanRuns p results) with
      | none =>
        have hmem := (hrun a b).1 hbest.1
        rw [chooseRun_none hc] at hmem
        cases hmem
      | some r =>
        obtain ⟨hmem, hnone⟩ := chooseRun_best hc
        have hnot := hnone _ ((hrun a b).1 hbest.1)
        rw [hbeats] at hnot
        have heq : r = (a, b) := by
          obtain ⟨c, d⟩ := r
          rcases hbest.2 c d ((hrun c d).2 hmem) with ⟨rfl, rfl⟩ | h
          · rfl
          · exact absurd h hnot
        subst heq
        obtain ⟨h1, h2, h3, h4⟩ := evaluateScan_run (p := p) (z := z) (sweep := sweep) (seq := seq) (temp := temp) hc
        have hab : a ≤ b := hbest.1.1
        have hwindow : pos b - pos a + z.scanStep = ((z.scanOffset b - z.scanOffset a).toNat + z.scanStep : Nat) := by
          have hmono : a * z.scanStep ≤ b * z.scanStep := Nat.mul_le_mul_right _ hab
          have hle : z.scanOffset a ≤ z.scanOffset b := by
            simp only [Zone.scanOffset]
            omega
          rw [hpos, hpos]
          omega
        intro sum window
        have hw : window = ((z.scanOffset b - z.scanOffset a).toNat + z.scanStep : Nat) := hwindow
        refine ⟨h1.trans ?_, fun h => h2 (by omega), fun h => h3 (by omega), fun h => h4 (by omega)⟩
        rw [hw, Int.toNat_natCast, roundHalfAway_two, ← hpos, ← hpos]
  · intro s b bits cap w k x fed z results h1 h2 hon hcap hw hp hlast hk hr hs
    rw [readback_reaches hon h1 h2]
    obtain ⟨p, u, hh, fr, e, _, _, _, _, hc⟩ := fedTo_feedBits bits (s.ctx b)
    have hfed : fed = _ := e
    have hfedwork : fed.bay.sweep.work = some w := by rw [hfed]; exact hw
    have hends : takeReadback bits (s.ctx b) = readEnds w k ((s.ctx b).blockTaken bits cap) :=
      (takeReadback_open hcap).trans (endIfComplete_ends rfl hfedwork hp hlast.le)
    have hzone : jobZone w.job ((s.ctx b).blockTaken bits cap) = z := by
      rw [Ctx.blockTaken, show feedBits bits (s.ctx b) = fed from rfl, hfed]
      rfl
    have hctrl : ((s.ctx b).blockTaken bits cap).bay.ctrl = x.ctrl ∧
        ((s.ctx b).blockTaken bits cap).bay.profile = x.profile := by
      rw [Ctx.blockTaken, show feedBits bits (s.ctx b) = fed from rfl, hfed]
      exact ⟨rfl, rfl⟩
    refine next_leaves (notes := []) (hends.trans ((readEnds_scan (by rw [hzone]; exact hk)
      (by rw [hctrl.1]; exact hs) (by rw [hctrl.1, hctrl.2]; exact hr)).trans ?_))
    rw [hzone, show ((s.ctx b).blockTaken bits cap).bay.pattern.received = cap.received + 1 from rfl,
      result_received (Nat.succ_ne_zero _), Ctx.blockTaken, show feedBits bits (s.ctx b) = fed from rfl]
    simp only [results]
    rw [hfed]
    rfl

end Sys2Proof.Machine

namespace Sys2Proof.Machine

/-! SUPPORT. A delivered sample on the whole bay at work (R58): loss counting (R38), what the loop hears (R60,
R61), the armed settle watch (R63), and statements O29, O30 and O32. -/

/-! ### Completions as next states -/

section
variable {s : State} {b : BayIx} {w : Wedge} {y : Sample} {x : Bay} {frames : List EventFrame}
  {records : List OutRecord} {notes : List Note}

theorem completeWedge_eq (hy : (classify w (s.ctx b)).2 = y)
    (h : sampleActs y (classify w (s.ctx b)).1 = ⟨b, x, frames, records, notes⟩) :
    completeWedge w (s.ctx b) = ⟨b, x, frames, records ++ [.drive x.ctrl.command], notes⟩ := by
  simp only [completeWedge, handleSample, hy, h]
  rfl

/-- A completion leaves what the sample does to the bay, its DRIVE record last (R58, R66). -/
theorem sample_leaves (hbusy : s.demod.busy = some (b, w)) (hon : (s.bays.get b).ctrl.state ≠ .offline)
    (hy : (classify w (s.ctx b)).2 = y)
    (h : sampleActs y (classify w (s.ctx b)).1 = ⟨b, x, frames, records, notes⟩) :
    exec .demodComplete s = .next (({ s with demod := ⟨none, s.demod.lastServed⟩ } : State).leaves b x frames
      (records ++ [.drive x.ctrl.command])) :=
  congrArg Host.Outcome.next (demodComplete_leaves hbusy hon (completeWedge_eq hy h))

/-- The row of an event of the sample leaves the same (log entry 6). -/
theorem row_leaves {n : Note} (hbusy : s.demod.busy = some (b, w)) (hon : (s.bays.get b).ctrl.state ≠ .offline)
    (hy : (classify w (s.ctx b)).2 = y)
    (h : sampleActs y (classify w (s.ctx b)).1 = ⟨b, x, frames, records, notes⟩) (hn : n ∈ notes) :
    (Host.Outcome.next (completeFor n b s) : Host.Outcome State Fault Refusal) =
      .next (({ s with demod := ⟨none, s.demod.lastServed⟩ } : State).leaves b x frames
        (records ++ [.drive x.ctrl.command])) :=
  congrArg Host.Outcome.next (completeFor_leaves hbusy hon (completeWedge_eq hy h) hn)

/-- The row of an event that the sample does not bring about leaves the part as it is (log entry 6). -/
theorem row_stays {n : Note} {d : Ctx} (hbusy : s.demod.busy = some (b, w)) (hy : (classify w (s.ctx b)).2 = y)
    (h : sampleActs y (classify w (s.ctx b)).1 = d) (hn : n ∉ d.notes) :
    (Host.Outcome.next (completeFor n b s) : Host.Outcome State Fault Refusal) = .next s := by
  have hsent : completeWedge w (s.ctx b) = ⟨d.id, d.bay, d.frames, d.records ++ [.drive d.ctrl.command], d.notes⟩ := by
    simp only [completeWedge, handleSample, hy, h]
    rfl
  rw [completeFor, if_neg]
  simpa [brings, hbusy, hsent] using fun _ => hn
end

/-! ### Loss counting (R38) -/

theorem unusable_iff (k : SampleClass) : k.unusable = true ↔ k = .noSync ∨ k = .foreign := by
  cases k <;> simp [SampleClass.unusable]

section
variable {c : Ctx} {y : Sample}

/-- The sample is no servo loss: short of the threshold, or not counted (R38). -/
def Ctx.notLost (c : Ctx) (y : Sample) : Prop := c.bay.ctrl.selHead = c.bay.ctrl.loopHead →
  y.cls = .noSync ∨ y.cls = .foreign → c.bay.acq.loss + 1 < lossThreshold c.bay.profile

theorem countLoss_eq (h : c.notLost y) : countLoss y c = (c.setAcq (c.bay.heard y).acq, false) := by
  unfold countLoss Bay.heard
  by_cases hs : c.bay.ctrl.selHead = c.bay.ctrl.loopHead
  · rw [if_neg (show ¬ c.ctrl.selHead ≠ c.ctrl.loopHead from fun h => h hs)]
    by_cases hu : y.cls = .noSync ∨ y.cls = .foreign
    · rw [if_pos ((unusable_iff _).2 hu)]
      simp only [if_neg (show ¬ c.bay.ctrl.selHead ≠ c.bay.ctrl.loopHead from fun h => h hs), if_pos hu]
      exact if_neg (Nat.not_le.2 (h hs hu))
    · rw [if_neg fun h => hu ((unusable_iff _).1 h)]
      simp only [if_neg (show ¬ c.bay.ctrl.selHead ≠ c.bay.ctrl.loopHead from fun h => h hs), if_neg hu]
  · rw [if_pos (show c.ctrl.selHead ≠ c.ctrl.loopHead from hs)]
    simp only [if_pos (show c.bay.ctrl.selHead ≠ c.bay.ctrl.loopHead from hs)]
    rfl

/-- A loss count that comes to its threshold is a servo loss (R38, R39). -/
theorem countLoss_lost (hs : c.bay.ctrl.selHead = c.bay.ctrl.loopHead) (hu : y.cls = .noSync ∨ y.cls = .foreign)
    (h : lossThreshold c.bay.profile ≤ c.bay.acq.loss + 1) : countLoss y c =
      ((servoLoss y.cls (c.setAcq { c.bay.acq with loss := c.bay.acq.loss + 1 })).note .servoLoss, true) := by
  unfold countLoss
  rw [if_neg (show ¬ c.ctrl.selHead ≠ c.ctrl.loopHead from fun h => h hs), if_pos ((unusable_iff _).2 hu)]
  exact if_pos h

/-! ### What the loop hears (R56, R60, R61) -/

theorem heard_held {k : Ctrl} {p : Profile} (h : k.frozen = true ∨ y.cls ≠ .position ∨ y.head ≠ k.loopHead) :
    k.heard p y = { k with settle := 0 } := if_pos h

theorem heard_updated {k : Ctrl} {p : Profile} {pos now final : Int} (hf : k.frozen = false) (hc : y.cls = .position)
    (hh : y.head = k.loopHead) (hp : y.position = some pos) (hn : k.targetNow = some now)
    (ht : k.targetFinal = some final) : k.heard p y = k.updated p pos now final := by
  simp [Ctrl.heard, hf, hc, hh, hp, hn, ht]

theorem heard_seeded {k : Ctrl} {p : Profile} {pos : Int} (hf : k.frozen = false) (hc : y.cls = .position)
    (hh : y.head = k.loopHead) (hp : y.position = some pos) (hn : k.targetNow = none) :
    k.heard p y = { k with targetNow := some pos, settle := 0 } := by
  simp [Ctrl.heard, hf, hc, hh, hp, hn]

/-- What the loop leaves of the bay controller. -/
theorem heard_rest (k : Ctrl) (p : Profile) (y : Sample) : (k.heard p y).state = k.state ∧
    (k.heard p y).watch = k.watch ∧ (k.heard p y).switchWait = k.switchWait ∧
    (k.heard p y).selHead = k.selHead ∧ (k.heard p y).loopHead = k.loopHead ∧
    (k.heard p y).targetFinal = k.targetFinal ∧ (k.heard p y).frozen = k.frozen := by
  unfold Ctrl.heard
  split
  · exact ⟨rfl, rfl, rfl, rfl, rfl, rfl, rfl⟩
  · split <;> exact ⟨rfl, rfl, rfl, rfl, rfl, rfl, rfl⟩

/-- A sample of no use to the loop counts toward servo loss (R38, R61). -/
theorem Bay.heard_unusable {x : Bay} (hs : x.ctrl.selHead = x.ctrl.loopHead) (hu : y.cls = .noSync ∨ y.cls = .foreign) :
    x.heard y = { x with
      acq := { x.acq with loss := x.acq.loss + 1 }, ctrl := { x.ctrl with settle := 0 } } := by
  have hc : y.cls ≠ .position := by rcases hu with h | h <;> rw [h] <;> decide
  rw [Bay.heard, if_neg (fun h => h hs), if_pos hu, heard_held (.inr (.inl hc))]

/-- Every other sample sets the loss count to 0 (R38). -/
theorem Bay.heard_usable {x : Bay} (hs : x.ctrl.selHead = x.ctrl.loopHead)
    (hu : ¬ (y.cls = .noSync ∨ y.cls = .foreign)) : x.heard y = { x with
      acq := { x.acq with loss := 0 }, ctrl := x.ctrl.heard x.profile y } := by
  rw [Bay.heard, if_neg (fun h => h hs), if_neg hu]

theorem usable_of_position (h : y.cls = .position) : ¬ (y.cls = .noSync ∨ y.cls = .foreign) := by
  rw [h]
  decide

/-- A sample that finds the loop unseeded seeds it (R56). -/
theorem loopReceives_seeds {pos : Int} (hf : c.bay.ctrl.frozen = false) (hc : y.cls = .position)
    (hh : y.head = c.bay.ctrl.loopHead) (hp : y.position = some pos) (hn : c.bay.ctrl.targetNow = none) :
    (loopReceives y c).2 = (true, false) := by
  simp [loopReceives, hf, hc, hh, hp, hn]

/-- A sample that is no POSITION, and every sample while frozen, is held (R61). -/
theorem loopReceives_holds (h : y.cls ≠ .position ∨ c.bay.ctrl.frozen = true) :
    (loopReceives y c).2 = (false, false) := by
  unfold loopReceives
  rcases h with h | h
  · split
    · rfl
    · split
      · exact absurd ‹_› h
      · rfl
  · rw [if_pos (show c.ctrl.frozen = true from h)]

/-- The loop's update comes to its target (R59, R60). -/
theorem loopReceives_atTarget : (loopReceives y c).2.2 = true ↔
    (c.bay.ctrl.frozen = false ∧ y.cls = .position ∧ y.head = c.bay.ctrl.loopHead ∧ y.position ≠ none ∧
      c.bay.ctrl.targetNow ≠ none ∧ c.bay.ctrl.targetFinal ≠ none) ∧
    (c.bay.ctrl.heard c.bay.profile y).targetNow = (c.bay.ctrl.heard c.bay.profile y).targetFinal := by
  by_cases hf : c.bay.ctrl.frozen = true
  · rw [loopReceives_holds (.inr hf)]
    simp [hf]
  by_cases hc : y.cls = .position
  · by_cases hh : y.head = c.bay.ctrl.loopHead
    · cases hp : y.position <;> cases hn : c.bay.ctrl.targetNow <;> cases ht : c.bay.ctrl.targetFinal
      case some.some.some pos now final =>
        rw [heard_updated (Bool.eq_false_iff.2 hf) hc hh hp hn ht, show (c.bay.ctrl.updated c.bay.profile pos now final).targetFinal
          = some final from ht]
        simp [loopReceives, hf, hc, hh, hp, hn, ht, loopUpdate_eq]
      all_goals simp [loopReceives, hf, hc, hh, hp, hn, ht]
    · simp [loopReceives, hf, hc, hh]
      cases y.position <;> simp
  · rw [loopReceives_holds (.inl hc)]
    simp [hc]

/-- The bay at work once loss counting and the loop have had a sample (R38, R60). -/
def Ctx.hears (c : Ctx) (y : Sample) : Ctx := { c with bay := c.bay.heard y }

theorem loopReceives_hears : (loopReceives y (c.setAcq (c.bay.heard y).acq)).1 = c.hears y := by
  rw [loopReceives_ctx]
  rfl

theorem loopReceives_setAcq (a : Acq) : (loopReceives y (c.setAcq a)).2 = (loopReceives y c).2 := by
  unfold loopReceives
  by_cases hf : c.ctrl.frozen = true
  · rw [if_pos hf, if_pos (show (c.setAcq a).ctrl.frozen = true from hf)]
  · rw [if_neg hf, if_neg (show ¬ (c.setAcq a).ctrl.frozen = true from hf)]
    cases y.cls <;> cases y.position <;> simp only
    by_cases hh : y.head = c.bay.ctrl.loopHead
    · simp only [Ctx.ctrl, Ctx.setAcq_bay_ctrl, hh, ne_eq, not_true_eq_false, if_false]
      cases c.bay.ctrl.targetNow <;> cases c.bay.ctrl.targetFinal <;> simp only [loopUpdate_eq]
      rfl
    · simp [Ctx.ctrl, hh]

/-! ### The armed settle watch (R63) -/

theorem watchCounts_none (h : c.bay.ctrl.watch = none) : watchCounts c = (c, false, false) := by
  simp [watchCounts, Ctx.ctrl, h]

theorem watchCounts_tracked {n : Nat} (h : c.bay.ctrl.watch = some n)
    (ht : c.bay.profile.settleCount ≤ c.bay.ctrl.settle) :
    watchCounts c = (c.setCtrl { c.bay.ctrl with watch := none }, true, false) := by
  simp [watchCounts, onTrack, Ctx.ctrl, Ctx.profile, h, ht]

theorem watchCounts_timedOut {n : Nat} (h : c.bay.ctrl.watch = some n)
    (ht : c.bay.ctrl.settle < c.bay.profile.settleCount) (hn : c.bay.profile.settleTimeout ≤ n + 1) :
    watchCounts c = (c.setCtrl { c.bay.ctrl with watch := none }, false, true) := by
  simp [watchCounts, onTrack, Ctx.ctrl, Ctx.profile, h, Nat.not_le.2 ht, hn]

theorem watchCounts_counts {n : Nat} (h : c.bay.ctrl.watch = some n)
    (ht : c.bay.ctrl.settle < c.bay.profile.settleCount) (hn : n + 1 < c.bay.profile.settleTimeout) :
    watchCounts c = (c.setCtrl { c.bay.ctrl with watch := some (n + 1) }, false, false) := by
  simp [watchCounts, onTrack, Ctx.ctrl, Ctx.profile, h, Nat.not_le.2 ht, Nat.not_le.2 hn]

/-- The watch changes the bay controller at most. -/
theorem watchCounts_shape (c : Ctx) : ∃ v track out,
    watchCounts c = (c.setCtrl { c.bay.ctrl with watch := v }, track, out) := by
  unfold watchCounts
  split
  · rename_i h
    refine ⟨none, false, false, ?_⟩
    rw [← show c.bay.ctrl.watch = none from h]
    rfl
  · (repeat' split) <;> exact ⟨_, _, _, rfl⟩

/-! ### A sample past the switch wait (R58) -/

theorem sampleActs_following (hw : c.bay.ctrl.switchWait = 0)
    (hs : c.bay.ctrl.state = .follow ∨ c.bay.ctrl.state = .sweep ∨ c.bay.ctrl.state = .held) :
    sampleActs y c = followSample y c := by
  rw [sampleActs, if_neg (show ¬ 0 < c.ctrl.switchWait by rw [Ctx.ctrl, hw]; decide)]
  rcases hs with h | h | h <;> simp only [Ctx.ctrl, h]

theorem sampleActs_acquire (hw : c.bay.ctrl.switchWait = 0) (hs : c.bay.ctrl.state = .acquire) :
    sampleActs y c = acquireSample y c := by
  rw [sampleActs, if_neg (show ¬ 0 < c.ctrl.switchWait by rw [Ctx.ctrl, hw]; decide)]
  simp only [Ctx.ctrl, hs]

/-- The sample of a servo loss does no more (R58). -/
theorem followSample_lost (hs : c.bay.ctrl.selHead = c.bay.ctrl.loopHead)
    (hu : y.cls = .noSync ∨ y.cls = .foreign) (h : lossThreshold c.bay.profile ≤ c.bay.acq.loss + 1) :
    followSample y c =
      (servoLoss y.cls (c.setAcq { c.bay.acq with loss := c.bay.acq.loss + 1 })).note .servoLoss := by
  simp only [followSample, countLoss_lost hs hu h, if_true]

/-- Loss counting, the loop and the watch, and in SWEEP the work in flight (R58). -/
theorem followSample_eq {d : Ctx} {track out : Bool} (hl : c.notLost y)
    (hw : watchCounts (c.hears y) = (d, track, out)) : followSample y c =
      if d.bay.ctrl.state = .sweep then
        engineSample y ⟨(loopReceives y c).2.1, (loopReceives y c).2.2, track, out⟩ d
      else d := by
  simp only [followSample, countLoss_eq hl, Bool.false_eq_true, if_false, loopStage, loopReceives_hears, hw,
    loopReceives_setAcq]
  rfl

/-- In FOLLOW the sample is the loop's alone (R58). -/
theorem sampleActs_follow (hw : c.bay.ctrl.switchWait = 0) (hs : c.bay.ctrl.state = .follow)
    (hwatch : c.bay.ctrl.watch = none) (hl : c.notLost y) : sampleActs y c = c.hears y := by
  obtain ⟨hstate, hw', _⟩ := heard_rest c.bay.ctrl c.bay.profile y
  rw [sampleActs_following hw (.inl hs), followSample_eq hl (watchCounts_none (c := c.hears y) (hw'.trans hwatch)),
    if_neg]
  rw [show (c.hears y).bay.ctrl.state = c.bay.ctrl.state from hstate, hs]
  decide

/-- In SWEEP with the watch disarmed the sample goes on to the work in flight (R58). -/
theorem sampleActs_sweep (hw : c.bay.ctrl.switchWait = 0) (hs : c.bay.ctrl.state = .sweep)
    (hwatch : c.bay.ctrl.watch = none) (hl : c.notLost y) : sampleActs y c =
      engineSample y ⟨(loopReceives y c).2.1, (loopReceives y c).2.2, false, false⟩ (c.hears y) := by
  obtain ⟨hstate, hw', _⟩ := heard_rest c.bay.ctrl c.bay.profile y
  rw [sampleActs_following hw (.inr (.inl hs)), followSample_eq hl (watchCounts_none (c := c.hears y) (hw'.trans hwatch)),
    if_pos]
  exact hstate.trans hs

/-- The bay at work with the settle watch at `v`. -/
def Ctx.watching (c : Ctx) (v : Option Nat) : Ctx := c.setCtrl { c.bay.ctrl with watch := v }

section
variable {n : Nat} (hw : c.bay.ctrl.switchWait = 0) (hs : c.bay.ctrl.state = .sweep)
  (hwatch : c.bay.ctrl.watch = some n) (hl : c.notLost y)
include hw hs hwatch hl

/-- In SWEEP the sample that finds the bay on track disarms the watch (R63). -/
theorem sampleActs_tracked (ht : c.bay.profile.settleCount ≤ (c.bay.heard y).ctrl.settle) : sampleActs y c =
    engineSample y ⟨(loopReceives y c).2.1, (loopReceives y c).2.2, true, false⟩ ((c.hears y).watching none) := by
  obtain ⟨hstate, hw', _⟩ := heard_rest c.bay.ctrl c.bay.profile y
  rw [sampleActs_following hw (.inr (.inl hs)),
    followSample_eq hl (watchCounts_tracked (c := c.hears y) (hw'.trans hwatch) ht), if_pos]
  · rfl
  · exact hstate.trans hs

/-- In SWEEP the sample at settle_timeout disarms the watch (R63). -/
theorem sampleActs_timedOut (ht : (c.bay.heard y).ctrl.settle < c.bay.profile.settleCount)
    (hn : c.bay.profile.settleTimeout ≤ n + 1) : sampleActs y c =
    engineSample y ⟨(loopReceives y c).2.1, (loopReceives y c).2.2, false, true⟩ ((c.hears y).watching none) := by
  obtain ⟨hstate, hw', _⟩ := heard_rest c.bay.ctrl c.bay.profile y
  rw [sampleActs_following hw (.inr (.inl hs)),
    followSample_eq hl (watchCounts_timedOut (c := c.hears y) (hw'.trans hwatch) ht hn), if_pos]
  · rfl
  · exact hstate.trans hs

/-- In SWEEP a sample short of settle_timeout is counted (R63). -/
theorem sampleActs_counts (ht : (c.bay.heard y).ctrl.settle < c.bay.profile.settleCount)
    (hn : n + 1 < c.bay.profile.settleTimeout) : sampleActs y c =
    engineSample y ⟨(loopReceives y c).2.1, (loopReceives y c).2.2, false, false⟩
      ((c.hears y).watching (some (n + 1))) := by
  obtain ⟨hstate, hw', _⟩ := heard_rest c.bay.ctrl c.bay.profile y
  rw [sampleActs_following hw (.inr (.inl hs)),
    followSample_eq hl (watchCounts_counts (c := c.hears y) (hw'.trans hwatch) ht hn), if_pos]
  · rfl
  · exact hstate.trans hs
end
end

/-- A classification, written out as the bay that the part holds and what the counter made of it. -/
theorem classify_form (s : State) (b : BayIx) (w : Wedge) : ∃ k u h fr, (classify w (s.ctx b)).1 =
    ⟨b, { (s.bays.get b) with counter := k, unit := u, sweep := { (s.bays.get b).sweep with holds := h } },
      fr, [], []⟩ := countedTo_classify w (s.ctx b)

/-- Settles O30, by what the loop hears. -/
theorem loopHearsInFollow : Obligations.LoopHearsInFollow := by
  unfold Obligations.LoopHearsInFollow
  intro s b w y x p c free leaves hbusy hy hs hw hsel hwatch
  have hon : x.ctrl.state ≠ .offline := by rw [hs]; decide
  obtain ⟨k, u, hh, fr, hc⟩ := classify_form s b w
  have hc' : c = _ := hc
  have hear (loss : Nat) (k2 : Ctrl)
      (hl : y.cls = .noSync ∨ y.cls = .foreign → x.acq.loss + 1 < lossThreshold p)
      (hk : c.bay.heard y = { c.bay with acq := { x.acq with loss := loss }, ctrl := k2 }) : leaves loss k2 := by
    refine sample_leaves (notes := []) (records := []) hbusy hon hy ?_
    rw [hc'] at hk
    rw [hc, hc', sampleActs_follow hw hs hwatch fun _ => hl, Ctx.hears, hk]
  have hsel' : c.bay.ctrl.selHead = c.bay.ctrl.loopHead := by rw [hc']; exact hsel
  have usable (k2 : Ctrl) (hu : ¬ (y.cls = .noSync ∨ y.cls = .foreign)) (hk : x.ctrl.heard p y = k2) : leaves 0 k2 := by
    refine hear 0 k2 (fun h => absurd h hu) ((Bay.heard_usable hsel' hu).trans ?_)
    rw [← hk, hc']
  refine ⟨fun pos now final h1 h2 h3 h4 h5 h6 => ?_, fun pos h1 h2 h3 h4 h5 => ?_, fun h => ⟨fun h1 h2 => ?_,
    fun hu hl => ?_⟩⟩
  · exact usable _ (usable_of_position h1) (heard_updated h4 h1 h3 h2 h5 h6)
  · exact usable _ (usable_of_position h1) (heard_seeded h4 h1 h3 h2 h5)
  · exact usable _ (fun h => h.elim h1 h2) (heard_held (h.elim (fun h => .inr (.inl h)) .inl))
  · refine hear _ _ (fun _ => hl) ((Bay.heard_unusable hsel' hu).trans ?_)
    rw [hc']

/-! ### Servo loss (R39) -/

/-- The bay at work once a servo loss has taken it to ACQUIRE (R39). -/
def Ctx.servoLost (c : Ctx) (cls : SampleClass) : Ctx := { c with
  bay := { c.bay.raising .servoLoss with
    acq := ⟨lossIntent c.bay.ctrl.state, 0, 0, 0⟩
    counter := { c.bay.counter with qp := none, resolved := false }
    ctrl := { c.bay.ctrl with
      state := .acquire, command := lossCommand c.bay.profile c.bay.ctrl.command, settle := 0, frozen := false
      watch := none } }
  frames := c.frames ++ c.bay.unit.offers c.id
    (.servoLoss c.bay.ctrl.selHead c.bay.ctrl.state (lossThreshold c.bay.profile) cls) }

theorem servoLoss_eq (cls : SampleClass) (c : Ctx) : servoLoss cls c = sweepLoss (c.servoLost cls) := by
  unfold servoLoss
  simp only [raise_eq]
  rfl

theorem sweepLoss_idle {c : Ctx} (h : c.bay.sweep.active = false) : sweepLoss c = c :=
  if_neg (Bool.eq_false_iff.1 h)

/-- Settles O32: the sample at the threshold, and the samples short of it. -/
theorem servoLossEntersAcquire : Obligations.ServoLossEntersAcquire := by
  unfold Obligations.ServoLossEntersAcquire
  intro s b h x limit command free hbusy hs hw hsel hact
  have hon : x.ctrl.state ≠ .offline := by rw [hs]; decide
  have hclass : classify ⟨h, none⟩ (s.ctx b) = (s.ctx b, ⟨.noSync, h, false, none, none, none⟩) :=
    classify_of_noSync _ rfl
  have hy : (classify ⟨h, none⟩ (s.ctx b)).2 = ⟨.noSync, h, false, none, none, none⟩ := by rw [hclass]
  refine ⟨fun hl => ?_, fun hl => ?_⟩
  · have hl' : lossThreshold x.profile ≤ x.acq.loss + 1 := hl
    refine row_leaves (records := []) (notes := [.servoLoss]) hbusy hon hy ?_ (List.mem_singleton_self _)
    rw [hclass, sampleActs_following hw (.inl hs), followSample_lost (c := s.ctx b) hsel (.inl rfl) hl', servoLoss_eq,
      sweepLoss_idle ((Bay.raising_active _ _).trans hact), Ctx.servoLost, Bay.raising,
      if_neg fun h => Bool.eq_false_iff.1 hact h.2]
    simp only [Ctx.setAcq, State.ctx_bay, State.ctx_id, State.ctx_frames, show (s.bays.get b).ctrl.state = .follow from hs]
    rfl
  · obtain ⟨d, track, out, hwatch, hstate, hnotes⟩ : ∃ d track out,
        watchCounts ((s.ctx b).hears ⟨.noSync, h, false, none, none, none⟩) = (d, track, out) ∧
        d.bay.ctrl.state = x.ctrl.state ∧ d.notes = [] := by
      obtain ⟨v, track, out, e⟩ := watchCounts_shape ((s.ctx b).hears ⟨.noSync, h, false, none, none, none⟩)
      exact ⟨_, track, out, e, (heard_rest x.ctrl x.profile ⟨.noSync, h, false, none, none, none⟩).1, rfl⟩
    have hacts : sampleActs ⟨.noSync, h, false, none, none, none⟩ (classify ⟨h, none⟩ (s.ctx b)).1 = d := by
      rw [hclass, sampleActs_following hw (.inl hs), followSample_eq (c := s.ctx b) (fun _ _ => hl) hwatch, if_neg]
      rw [hstate, hs]
      decide
    exact row_stays hbusy hy hacts (by rw [hnotes]; exact List.not_mem_nil)

end Sys2Proof.Machine

namespace Sys2Proof.Machine

/-! SUPPORT. Acquisition (R33, R34, R147), and statement O29. -/

section
variable {c : Ctx} {y : Sample}

/-- The run count after a sample (R33). -/
theorem runAfter_eq {run : Nat} (h : run ≤ 255) (cls : SampleClass) : runAfter cls run =
    match cls with
    | .noSync => 0
    | .foreign => 0
    | _ => min 255 (run + 1) := by
  have hinc : satInc 255 run = min 255 (run + 1) := by
    unfold satInc
    split <;> omega
  cases cls <;> simp only [runAfter, SampleClass.unusable, Bool.false_eq_true, if_true, if_false, hinc]

/-- A sample that does not complete the acquisition sets the run count and does no more (R33). -/
theorem acquireSample_runs (h : y.cls ≠ .position ∨ runAfter y.cls c.bay.acq.run < c.bay.profile.acqCount) :
    acquireSample y c = c.setAcq { c.bay.acq with run := runAfter y.cls c.bay.acq.run } := by
  unfold acquireSample
  simp only
  split
  · rename_i hcls _
    exact if_neg (Nat.not_le.2 (h.resolve_left fun h => h hcls))
  · rfl

/-- A POSITION sample that finds the run at acq_count completes the acquisition (R34). -/
theorem acquireSample_completes {pos : Int} (hc : y.cls = .position) (hp : y.position = some pos)
    (h : c.bay.profile.acqCount ≤ runAfter y.cls c.bay.acq.run) : acquireSample y c =
      acquisitionCompletes pos (c.setAcq { c.bay.acq with run := runAfter y.cls c.bay.acq.run }) := by
  unfold acquireSample
  simp only
  split
  · rename_i pos' _ hp'
    cases hp.symm.trans hp'
    exact if_pos h
  · rename_i hno
    exact absurd hp (hno pos hc)

/-- The bay at work once acquisition has completed, before the engine acts (R34). -/
def Ctx.acquired (c : Ctx) (pos : Int) : Ctx := { c with
  bay := ({ c.bay with
    acq := { c.bay.acq with run := 0, loss := 0 }
    ctrl := { c.bay.ctrl with
      state := c.bay.acq.intent.state, targetNow := some pos, prevErr := none } } : Bay).raising .acquired
  frames := c.frames ++ c.bay.unit.offers c.id
    (.acquired c.bay.ctrl.selHead pos c.bay.acq.intent c.bay.acq.elapsed) }

theorem acquisitionCompletes_follow {pos : Int} (h : c.bay.acq.intent = .follow) :
    acquisitionCompletes pos c = c.acquired pos := by
  simp only [acquisitionCompletes, h, raise_eq, Ctx.acquired]
  rfl

theorem acquisitionCompletes_sweep {pos : Int} (h : c.bay.acq.intent = .sweep) :
    acquisitionCompletes pos c = engineResumes (c.acquired pos) := by
  simp only [acquisitionCompletes, h, raise_eq, Ctx.acquired]
  rfl

/-- Interrupted work begins again (R147). -/
theorem engineResumes_work {w : Work} (h : c.bay.sweep.work = some w) : engineResumes c = beginWork w c := by
  simp only [engineResumes, show c.sweep.work = some w from h]

/-- With none in flight the boundary runs (R136). -/
theorem engineResumes_none (h : c.bay.sweep.work = none) : engineResumes c = boundary c := by
  simp only [engineResumes, show c.sweep.work = none from h]

/-- A visit or OFFSET step begins with its SEEK (R90, R98). -/
theorem beginWork_seeks {w : Work} (h : ∀ h z, w.job ≠ .jog h z) : beginWork w c = { c with
    bay := c.bay.seeks { w with phase := .seek } (clampTarget (jobZone w.job c).centre) } := by
  unfold beginWork
  split
  · exact absurd ‹_› (h _ _)
  · exact beginSeek_eq c w
  · exact beginSeek_eq c w
end

section
variable (x : Bay) (k : EventKind)

/-- Raising an event changes the hold causes of the sweep at most. -/
theorem Bay.raising_sweep : ∃ h, (x.raising k).sweep = { x.sweep with holds := h } := by
  unfold Bay.raising
  split
  · exact ⟨_, rfl⟩
  · exact ⟨_, rfl⟩

@[simp] theorem Bay.raising_work : (x.raising k).sweep.work = x.sweep.work := by
  obtain ⟨h, e⟩ := Bay.raising_sweep x k
  rw [e]

@[simp] theorem Bay.raising_seqNext : (x.raising k).sweep.seqNext = x.sweep.seqNext := by
  obtain ⟨h, e⟩ := Bay.raising_sweep x k
  rw [e]
end

/-- Settles O29, by the run count, and by the intent at its completion. -/
theorem acquisitionRuns : Obligations.AcquisitionRuns := by
  unfold Obligations.AcquisitionRuns
  intro s b w y
  obtain ⟨k, u, hh, fr, hc⟩ := classify_form s b w
  rw [hc]
  intro x c free run hbusy hy hs hw hrun
  have hon : x.ctrl.state ≠ .offline := by rw [hs]; decide
  have hrun' : runAfter y.cls x.acq.run = run := runAfter_eq hrun _
  have hacts : sampleActs y (classify w (s.ctx b)).1 = acquireSample y c := by
    rw [hc]
    exact sampleActs_acquire hw hs
  refine ⟨fun h => ?_, fun pos hcls hpos hdone => ?_⟩
  · refine sample_leaves (notes := []) (records := []) hbusy hon hy (hacts.trans ?_)
    rw [acquireSample_runs (by rw [← hrun'] at h; exact h), ← hrun']
    rfl
  · intro done seeded seek frames completes
    have hcompletes : sampleActs y (classify w (s.ctx b)).1 =
        acquisitionCompletes pos (c.setAcq { x.acq with run := run }) := by
      rw [hacts, acquireSample_completes hcls hpos (by rw [← hrun'] at hdone; exact hdone), ← hrun']
    have hacquired : (c.setAcq { x.acq with run := run }).acquired pos =
        ⟨b, done { seeded with state := x.acq.intent.state }, frames, [], []⟩ := rfl
    refine ⟨fun hi => ?_, fun wk hi hwork hjob => ?_, fun hi hwork hseq => ?_⟩
    · rw [hi] at hacquired
      refine sample_leaves (notes := []) (records := []) hbusy hon hy
        (hcompletes.trans ((acquisitionCompletes_follow hi).trans hacquired))
    all_goals
      rw [hi] at hacquired
      have hw' : ((c.setAcq { x.acq with run := run }).acquired pos).bay.sweep.work = x.sweep.work :=
        Bay.raising_work _ _
      rw [hwork] at hw'
    · refine sample_leaves (notes := []) (records := []) hbusy hon hy
        (hcompletes.trans ((acquisitionCompletes_sweep hi).trans ((engineResumes_work hw').trans ?_)))
      rw [hacquired, beginWork_seeks hjob]
      rfl
    · have hseq' : ((c.setAcq { x.acq with run := run }).acquired pos).bay.sweep.seqNext < 65536 := by
        rw [show ((c.setAcq { x.acq with run := run }).acquired pos).bay.sweep.seqNext = x.sweep.seqNext from
          Bay.raising_seqNext _ _]
        exact hseq
      have hboundary := hcompletes.trans ((acquisitionCompletes_sweep hi).trans (engineResumes_none hw'))
      refine ⟨fun hheld => ?_, fun hfree hlog zone hz ht => ?_⟩
      · refine sample_leaves (notes := []) (records := []) hbusy hon hy
          (hboundary.trans ((boundary_of_held hseq' hheld).trans ?_))
        rw [hacquired]
        rfl
      · refine sample_leaves (notes := []) (records := []) hbusy hon hy
          (hboundary.trans ((boundary_of_free hseq' hfree).trans ((boundaryFrom3_opening hlog).trans
            ((beginVisit_eq _ .opening hz ht ?_).trans ?_))))
        · rw [hacquired]
          rfl
        · rw [hacquired]
          rfl

end Sys2Proof.Machine

namespace Sys2Proof.Machine

/-! SUPPORT. Samples that the switch wait discards (R55, R63, R92), and statement O33. -/

/-- The note of the sample that ends the switch wait. -/
def waitNotes (k : Nat) : List Note := if k = 0 then [.switchWaitEnd] else []

/-- The bay at work once a discarded sample has lowered the switch wait to `k` (R55). -/
def Ctx.waited (c : Ctx) (k : Nat) : Ctx := { c with
  bay := { c.bay with ctrl := { c.bay.ctrl with switchWait := k } }
  notes := c.notes ++ waitNotes k }

section
variable {c : Ctx} {y : Sample} {k : Nat}

/-- The switch wait discards the sample (R55). -/
theorem sampleActs_discards {d : Ctx} {out : Bool} (hw : c.bay.ctrl.switchWait = k + 1)
    (hd : watchDiscarded (c.waited k) = (d, out)) :
    sampleActs y c = if d.bay.ctrl.state = .sweep then engineDiscards y out d else d := by
  have hpos : 0 < c.ctrl.switchWait := by
    rw [show c.ctrl.switchWait = k + 1 from hw]
    exact Nat.succ_pos k
  have hfall : c.ctrl.switchWait - 1 = k := by
    rw [show c.ctrl.switchWait = k + 1 from hw]
    rfl
  have hwaited : (if k = 0 then (c.setCtrl { c.bay.ctrl with switchWait := k }).note .switchWaitEnd
      else c.setCtrl { c.bay.ctrl with switchWait := k }) = c.waited k := by
    unfold Ctx.waited waitNotes
    split
    · rfl
    · rw [List.append_nil]
      rfl
  rw [sampleActs, if_pos hpos]
  unfold discardSample
  simp only [hfall]
  rw [show (if (c.setCtrl { c.ctrl with switchWait := k }).ctrl.switchWait = 0 then
    (c.setCtrl { c.ctrl with switchWait := k }).note .switchWaitEnd
    else c.setCtrl { c.ctrl with switchWait := k }) = c.waited k from hwaited, hd]
  rfl

theorem watchDiscarded_none (h : c.bay.ctrl.watch = none) : watchDiscarded c = (c, false) := by
  simp [watchDiscarded, Ctx.ctrl, h]

theorem watchDiscarded_counts {n : Nat} (h : c.bay.ctrl.watch = some n) (hn : n + 1 < c.bay.profile.settleTimeout) :
    watchDiscarded c = (c.watching (some (n + 1)), false) := by
  simp [watchDiscarded, Ctx.ctrl, Ctx.profile, h, Nat.not_le.2 hn, Ctx.watching]

/-- A discarded sample that times nothing out leaves a phase that settles, RETURN and LOOP_SWITCH (R55). -/
theorem engineDiscards_stays {wk : Work} (hwork : c.bay.sweep.work = some wk) {i : Nat}
    (hp : wk.phase ∈ [.seek, .settle, .move i, .settleAt i, .retHead, .loopSwitchOut, .loopSwitchBack]) :
    engineDiscards y false c = c := by
  simp only [List.mem_cons, List.not_mem_nil, or_false] at hp
  unfold engineDiscards
  rw [show c.sweep.work = some wk from hwork]
  rcases hp with h | h | h | h | h | h | h <;> simp only [h, Bool.false_eq_true, if_false]

/-- SWITCH waits for the wait to end (R92). -/
theorem engineDiscards_switch {wk : Work} (hwork : c.bay.sweep.work = some wk) (hp : wk.phase = .switch) (out : Bool) :
    engineDiscards y out c = if c.bay.ctrl.switchWait = 0 then beginHeadAvg wk c else c := by
  unfold engineDiscards
  simp only [show c.sweep.work = some wk from hwork, hp]
  rfl
end

/-- The window's count is the largest power of two not above avg_count (R86). -/
theorem windowSize_eq {n e : Nat} (h1 : 2 ≤ e) (h2 : e ≤ 8) (h3 : 2 ^ e ≤ n) (h4 : n < 2 ^ (e + 1)) :
    windowSize n = 2 ^ e := by
  unfold windowSize
  interval_cases e <;> norm_num at h3 h4 ⊢ <;> (repeat' split) <;> omega

/-- A window opens on a head (R86). -/
theorem openWindow_eq {c : Ctx} {n : Nat} (head : Nat) (h : windowSize c.bay.profile.avgCount = n) :
    openWindow head c = { c with bay := { c.bay with
      meas := { c.bay.meas with window := some ⟨head, n, 0, 0, none, 0, 0, false⟩ } } } := by
  subst h
  rfl

/-- Settles O33, by the watch and the phase of the work in flight. -/
theorem switchWaitRuns : Obligations.SwitchWaitRuns := by
  unfold Obligations.SwitchWaitRuns
  intro s b w k
  obtain ⟨ct, u, hh, fr, hc⟩ := classify_form s b w
  rw [hc]
  intro x c free left ends hbusy hon hw
  have finish {z : Bay} (hz : ∀ y, sampleActs y c = ⟨b, z, fr, [], waitNotes k⟩) (hcmd : z.ctrl.command = x.ctrl.command) :
      ends z := by
    have hacts := hz (classify w (s.ctx b)).2
    rw [show c = (classify w (s.ctx b)).1 from hc.symm] at hacts
    refine ⟨?_, fun hk => ?_, fun hk => ?_⟩
    · rw [← hcmd]
      exact sample_leaves hbusy hon rfl hacts
    · rw [← hcmd]
      exact row_leaves hbusy hon rfl hacts (by simp [waitNotes, hk])
    · exact row_stays hbusy rfl hacts (by simp [waitNotes, hk])
  have unwatched (hwatch : x.ctrl.watch = none) (y : Sample) : sampleActs y c =
      if x.ctrl.state = .sweep then engineDiscards y false (c.waited k) else c.waited k :=
    sampleActs_discards hw (watchDiscarded_none (c := c.waited k) hwatch)
  refine ⟨fun hs hwatch => ?_, fun wk hs hwork => ⟨fun hp hwatch => ?_, fun n i hp hwatch hn => ?_,
    fun hp hwatch hk => ?_, fun e hp hwatch hk h1 h2 h3 h4 => ?_⟩⟩
  · refine finish (fun y => ?_) rfl
    rw [unwatched hwatch, if_neg hs]
    rfl
  · refine finish (fun y => ?_) rfl
    rw [unwatched hwatch, if_pos hs, engineDiscards_stays (i := 0) hwork (by simp at hp ⊢; tauto)]
    rfl
  · refine finish (fun y => ?_) rfl
    rw [sampleActs_discards hw (watchDiscarded_counts (c := c.waited k) hwatch hn), if_pos (by exact hs),
      engineDiscards_stays (i := i) hwork (by simp at hp ⊢; tauto)]
    rfl
  · refine finish (fun y => ?_) rfl
    rw [unwatched hwatch, if_pos hs, engineDiscards_switch hwork hp, if_neg (by exact hk)]
    rfl
  · intro h
    refine finish (fun y => ?_) rfl
    rw [unwatched hwatch, if_pos hs, engineDiscards_switch hwork hp, if_pos (by exact hk)]
    exact openWindow_eq (c := setWork { wk with phase := .headAvg } (c.waited k)) _ (windowSize_eq h1 h2 h3 h4)

end Sys2Proof.Machine

namespace Sys2Proof.Machine

/-! SUPPORT. The phases that settle (R63, R90, R117 to R120): what a sample does to them by the watch's answer, how
the work is stamped, and what READ takes of the loop buffer; statement O31. -/

section
variable {c : Ctx} {y : Sample} {wk : Work} {i : Nat}

/-! ### A phase that settles, by the watch's answer -/

theorem setWork_same (h : c.bay.sweep.work = some wk) : setWork wk c = c := by
  unfold setWork
  rw [← h]
  rfl

/-- On track a SEEK or its SETTLE ends (R90, R117). -/
theorem engineSample_settles (hwork : c.bay.sweep.work = some wk) (hp : wk.phase ∈ [.seek, .settle])
    (seeded atTarget out : Bool) : engineSample y ⟨seeded, atTarget, true, out⟩ c = settleEnds wk c := by
  simp only [List.mem_cons, List.not_mem_nil, or_false] at hp
  unfold engineSample
  rw [show c.sweep.work = some wk from hwork]
  rcases hp with h | h <;> simp only [h, if_true]

/-- On track at a position its READ begins (R120). -/
theorem engineSample_reads (hwork : c.bay.sweep.work = some wk) (hp : wk.phase ∈ [.move i, .settleAt i])
    (seeded atTarget out : Bool) : engineSample y ⟨seeded, atTarget, true, out⟩ c = beginRead wk i c := by
  simp only [List.mem_cons, List.not_mem_nil, or_false] at hp
  unfold engineSample
  rw [show c.sweep.work = some wk from hwork]
  rcases hp with h | h <;> simp only [h, if_true]

/-- A settle timeout ends any phase that settles (R63). -/
theorem engineSample_timesOut (hwork : c.bay.sweep.work = some wk)
    (hp : wk.phase ∈ [.seek, .settle, .move i, .settleAt i]) (seeded atTarget : Bool) :
    engineSample y ⟨seeded, atTarget, false, true⟩ c = settleTimesOut wk c := by
  simp only [List.mem_cons, List.not_mem_nil, or_false] at hp
  unfold engineSample
  rw [show c.sweep.work = some wk from hwork]
  rcases hp with h | h | h | h <;> simp only [h, Bool.false_eq_true, if_false, if_true]

/-- A SETTLE that is not over, and a SEEK or MOVE short of its target, go on. -/
theorem engineSample_goes_on (hwork : c.bay.sweep.work = some wk) {atTarget : Bool}
    (hp : wk.phase ∈ [.settle, .settleAt i] ∨ (wk.phase ∈ [.seek, .move i] ∧ atTarget = false)) (seeded : Bool) :
    engineSample y ⟨seeded, atTarget, false, false⟩ c = c := by
  simp only [List.mem_cons, List.not_mem_nil, or_false] at hp
  unfold engineSample
  rw [show c.sweep.work = some wk from hwork]
  rcases hp with (h | h) | ⟨h | h, ht⟩
  · simp only [h, Bool.false_eq_true, if_false]
  · simp only [h, Bool.false_eq_true, if_false]
  · simp only [h, ht, Bool.false_eq_true, if_false]
  · simp only [h, ht, Bool.false_eq_true, if_false]

theorem engineSample_seek_arrives (hwork : c.bay.sweep.work = some wk) (hp : wk.phase = .seek) (seeded : Bool) :
    engineSample y ⟨seeded, true, false, false⟩ c = setWork { wk with phase := .settle } c := by
  unfold engineSample
  simp only [show c.sweep.work = some wk from hwork, hp, Bool.false_eq_true, if_false, if_true]

theorem engineSample_move_arrives (hwork : c.bay.sweep.work = some wk) (hp : wk.phase = .move i) (seeded : Bool) :
    engineSample y ⟨seeded, true, false, false⟩ c = setWork { wk with phase := .settleAt i } c := by
  unfold engineSample
  simp only [show c.sweep.work = some wk from hwork, hp, Bool.false_eq_true, if_false, if_true]

/-! ### The work is stamped (R76, R90, R143, R163) -/

/-- The work with its number and temperature. -/
def Work.stampedBy (wk : Work) (seq : Nat) (temp : Option Int) : Work :=
  match wk.seq with
  | some _ => wk
  | none => { wk with seq := some seq, temp := temp }

theorem stamp_eq : stamp wk c = (wk.stampedBy c.bay.sweep.seqNext c.bay.thermal.temp, c.setSweep { c.bay.sweep with
    seqNext := if wk.seq = none then c.bay.sweep.seqNext + 1 else c.bay.sweep.seqNext }) := by
  unfold stamp Work.stampedBy
  split
  · rename_i h
    rw [h, if_neg (by simp)]
    rfl
  · rename_i h
    rw [h, if_pos rfl]
    rfl

theorem stampedBy_job (seq : Nat) (temp : Option Int) : (wk.stampedBy seq temp).job = wk.job := by
  unfold Work.stampedBy
  split <;> rfl

/-! ### After SEEK (R90, R91, R117, R118) -/

/-- An OFFSET step or a visit opens the window of REF_AVG on ref_head (R91). -/
theorem settleEnds_averages {n : Nat} (hj : ∀ h z, wk.job ≠ .jog h z) (hn : windowSize c.bay.profile.avgCount = n) :
    settleEnds wk c = { (stamp wk c).2 with bay := { (stamp wk c).2.bay with
      sweep := { (stamp wk c).2.bay.sweep with work := some { (stamp wk c).1 with phase := .refAvg } }
      meas := { c.bay.meas with window := some ⟨c.bay.profile.refHead, n, 0, 0, none, 0, 0, false⟩ } } } := by
  have hbegins : settleEnds wk c = beginRefAvg (stamp wk c).1 (stamp wk c).2 := by
    unfold settleEnds
    simp only
    split
    · exact absurd ‹_› (hj _ _)
    · rfl
    · rfl
  rw [hbegins, stamp_eq]
  exact openWindow_eq (c := setWork _ (c.setSweep _)) _ hn

/-- The pattern block as a write pass starts (R107, R108). -/
def Ctx.passing (c : Ctx) : Pattern :=
  { c.bay.pattern with gen := passRegister c.bay.profile.writeBlocks, selfCheck := false }

/-- The blocks of a write pass. -/
def Ctx.passBlocks (c : Ctx) : List (List Bool) :=
  blocksOf c.bay.profile.writeBlocks (passBits c.bay.profile.writeBlocks c.bay.pattern.selfCheck)

theorem beginWritePass_off (h : c.bay.profile.patternLoop = .off) : beginWritePass wk c = { c with
    bay := { c.bay with
      sweep := { c.bay.sweep with work := some { wk with phase := .writePass } }
      pattern := { c.passing with write := some 0 } }
    records := c.records ++ writeRecords c.bay.profile.writeBlocks 0 c.passBlocks } := by
  have hstart : startPass c = { c.setPattern { c.passing with write := some 0 } with
      records := c.records ++ writeRecords c.bay.profile.writeBlocks 0 c.passBlocks } := by
    unfold startPass
    simp only [show c.profile.patternLoop = .off from h]
    rfl
  have hprofile : (startPass c).profile.patternLoop = .off := by rw [hstart]; exact h
  unfold beginWritePass
  simp only [hprofile]
  rw [hstart]
  rfl

theorem beginWritePass_internal (h : c.bay.profile.patternLoop = .internal) : beginWritePass wk c = { c with
    bay := ({ c.bay with pattern := { c.passing with loopBuffer := c.passBlocks } } : Bay).seeks
      { wk with phase := .move 0 }
      (clampTarget ((jobZone wk.job c).centre - (jobZone wk.job c).halfSpan)) } := by
  have hstart : startPass c = c.setPattern { c.passing with loopBuffer := c.passBlocks } := by
    unfold startPass
    simp only [show c.profile.patternLoop = .internal from h]
    rfl
  have hprofile : (startPass c).profile.patternLoop = .internal := by rw [hstart]; exact h
  unfold beginWritePass
  simp only [hprofile]
  rw [hstart, beginMove_eq, scanOffset_zero, ← Int.sub_eq_add_neg]
  rfl

theorem settleEnds_passes {h z : Nat} (hj : wk.job = .jog h z) :
    settleEnds wk c = beginWritePass (stamp wk c).1 (stamp wk c).2 := by
  simp only [settleEnds, hj]

/-! ### READ (R110, R115, R120) -/

/-- A block taken raises the blocks received (R110). -/
theorem takeBlock_form {cap : Capture} (hcap : c.bay.pattern.capture = some cap) (bits : List Bool) :
    ∃ p u h fr, takeBlock c bits = { c with
        bay := { c.bay with pattern := p, unit := u, sweep := { c.bay.sweep with holds := h } }, frames := fr } ∧
      p.capture = some { cap with received := cap.received + 1 } := by
  obtain ⟨p, u, h, fr, e, _, _, _, _, hc⟩ := fedTo_feedBits bits c
  refine ⟨{ p with capture := some { cap with received := cap.received + 1 } }, u, h, fr, ?_, rfl⟩
  have hfed : (feedBits bits c).pattern.capture = some cap := by
    rw [e]
    exact hc.trans hcap
  simp only [takeBlock, hfed]
  rw [e]
  rfl

/-- A list of blocks taken (R110, R115). -/
theorem foldl_takeBlock_form {l : List (List Bool)} {cap : Capture} (hcap : c.bay.pattern.capture = some cap) :
    ∃ p u h fr, l.foldl takeBlock c = { c with
        bay := { c.bay with pattern := p, unit := u, sweep := { c.bay.sweep with holds := h } }, frames := fr } ∧
      p.capture = some { cap with received := cap.received + l.length } := by
  induction l generalizing c cap with
  | nil => exact ⟨_, _, _, _, rfl, hcap⟩
  | cons bits l ih =>
    obtain ⟨p, u, h, fr, e, hc⟩ := takeBlock_form hcap bits
    obtain ⟨p', u', h', fr', e', hc'⟩ := ih (c := takeBlock c bits) (by rw [e]; exact hc)
    refine ⟨p', u', h', fr', ?_, ?_⟩
    · rw [List.foldl_cons, e', e]
    · rw [hc', List.length_cons]
      simp only [Option.some.injEq, Capture.mk.injEq, true_and, and_true]
      omega

/-- The bay as READ of position `i` begins (R110, R120). -/
def Bay.reading (x : Bay) (wk : Work) (i : Nat) : Bay := { x with
  sweep := { x.sweep with work := some { wk with phase := .read i } }
  pattern := { x.pattern with
    checker := .hunt, sinceRestart := 0, run := 0, winCompared := 0, winMismatches := 0
    capture := some ⟨x.profile.readBlocks, 0, 0⟩, posCompared := 0, posMismatches := 0 } }

theorem beginRead_off (h : c.bay.profile.patternLoop = .off) : beginRead wk i c = { c with
    bay := c.bay.reading wk i, records := c.records ++ [.capture c.bay.profile.readBlocks] } := by
  have hprofile : (openCapture (setWork { wk with phase := .read i } c)).profile.patternLoop = .off := h
  simp only [beginRead, hprofile]
  rfl

theorem beginRead_internal (h : c.bay.profile.patternLoop = .internal) : beginRead wk i c =
    readEnds { wk with phase := .read i } i
      ((c.bay.pattern.loopBuffer.take c.bay.profile.readBlocks).foldl takeBlock { c with bay := c.bay.reading wk i }) := by
  have hprofile : (openCapture (setWork { wk with phase := .read i } c)).profile.patternLoop = .internal := h
  simp only [beginRead, hprofile]
  rfl
end

end Sys2Proof.Machine

namespace Sys2Proof.Machine

/-! SUPPORT. Statement O31: the phases that settle, sample by sample. -/

/-- Settles O31, by the watch's answer, the phase and the job. -/
theorem settlingPhasesAdvance : Obligations.SettlingPhasesAdvance := by
  unfold Obligations.SettlingPhasesAdvance
  intro s b w y wk n
  obtain ⟨ct, u, hh, fr, hc⟩ := classify_form s b w
  rw [hc]
  intro x p c free heard k z updated leaves hbusy hy hs hw hsel hl hwatch hwork
  have hon : x.ctrl.state ≠ .offline := by rw [hs]; decide
  have hl' : c.notLost y := fun _ => hl
  have finish {d : Bay} {frames : List EventFrame} {records : List OutRecord}
      (hd : sampleActs y c = ⟨b, d, frames, records, []⟩) (hcmd : d.ctrl.command = k.command) :
      leaves d frames records := by
    rw [show c = (classify w (s.ctx b)).1 from hc.symm] at hd
    have := sample_leaves hbusy hon hy hd
    rw [hcmd] at this
    exact this
  refine ⟨fun hset hn => ?_, fun hset => ?_⟩
  · intro counted
    have hacts := sampleActs_counts (c := c) hw hs hwatch hl' hset hn
    have hat := loopReceives_atTarget (c := c) (y := y)
    have hwork' : ((c.hears y).watching (some (n + 1))).bay.sweep.work = some wk := hwork
    have stays {at' : Bool} (hp : ∃ i, wk.phase ∈ [.settle, .settleAt i] ∨ (wk.phase ∈ [.seek, .move i] ∧ at' = false))
        (he : (loopReceives y c).2.2 = at') : leaves (counted wk.phase) fr [] := by
      obtain ⟨i, hp⟩ := hp
      refine finish (hacts.trans ?_) rfl
      rw [he, engineSample_goes_on hwork' hp]
      exact (setWork_same hwork').symm
    refine ⟨fun hup ht => ⟨fun hp => ?_, fun i hp => ?_⟩, fun hup i hp => ?_, fun i hp => ?_⟩
    · refine finish (hacts.trans ?_) rfl
      rw [hat.2 ⟨hup, ht.trans rfl⟩, engineSample_seek_arrives hwork' hp]
      rfl
    · refine finish (hacts.trans ?_) rfl
      rw [hat.2 ⟨hup, ht⟩, engineSample_move_arrives hwork' hp]
      rfl
    · refine stays ⟨i, .inr ⟨hp, rfl⟩⟩ (Bool.eq_false_iff.2 fun h => ?_)
      exact hup.elim (fun h' => h' (hat.1 h).1) (fun h' => h' (hat.1 h).2)
    · exact stays ⟨i, .inl hp⟩ rfl
  · intro tracked
    have hacts := sampleActs_tracked (c := c) hw hs hwatch hl' hset
    have hwork' : ((c.hears y).watching none).bay.sweep.work = some wk := hwork
    refine ⟨fun hp => ?_, fun i hp => ?_⟩
    · intro stamped sweep blocks passed
      have hsettles := hacts.trans (engineSample_settles hwork' hp _ _ _)
      have hstamp : stamp wk ((c.hears y).watching none) = (stamped, ((c.hears y).watching none).setSweep sweep) := stamp_eq
      have hjob : stamped.job = wk.job := stampedBy_job _ _
      refine ⟨fun e hj h1 h2 h3 h4 => ?_, fun h a hj => ⟨fun hloop => ?_, fun hloop => ?_⟩⟩
      · refine finish (hsettles.trans ((settleEnds_averages hj (windowSize_eq h1 h2 h3 h4)).trans ?_)) rfl
        rw [hstamp]
        rfl
      · refine finish (hsettles.trans ((settleEnds_passes hj).trans ?_)) rfl
        rw [hstamp]
        exact beginWritePass_off (c := ((c.hears y).watching none).setSweep sweep) hloop
      · refine finish (hsettles.trans ((settleEnds_passes hj).trans ?_)) rfl
        rw [hstamp]
        refine (beginWritePass_internal (c := ((c.hears y).watching none).setSweep sweep) hloop).trans ?_
        rw [show (stamped, ((c.hears y).watching none).setSweep sweep).1.job = wk.job from hjob]
        rfl
    · intro reading
      have hreads := hacts.trans (engineSample_reads hwork' hp _ _ _)
      refine ⟨fun hloop => finish (hreads.trans (beginRead_off hloop)) rfl, fun hloop => ?_⟩
      intro fed result results closed
      have hbegins : sampleActs y c = readEnds { wk with phase := .read i } i fed :=
        hreads.trans (beginRead_internal (c := (c.hears y).watching none) hloop)
      obtain ⟨pt, u', h', fr', hfed, hcap⟩ := foldl_takeBlock_form (c := { c with bay := reading })
        (l := x.pattern.loopBuffer.take p.readBlocks) (cap := ⟨p.readBlocks, 0, 0⟩) rfl
      have hfed' : fed = _ := hfed
      have hreceived : fed.bay.pattern.received = (x.pattern.loopBuffer.take p.readBlocks).length := by
        rw [hfed']
        simp only [Pattern.received, hcap, Nat.zero_add]
      have hresult : fed.bay.pattern.result fed.bay.pattern.received = result := by
        rw [hreceived]
        by_cases hnil : x.pattern.loopBuffer.take p.readBlocks = []
        · simp only [result, hnil, if_true]
          rfl
        · simp only [result, if_neg hnil]
          exact result_received (by simpa using hnil)
      have hzone : jobZone wk.job fed = z := by
        rw [hfed']
        rfl
      have hctrl : fed.bay.ctrl.selHead = fed.bay.ctrl.loopHead ∧ fed.bay.ctrl.loopHead = x.ctrl.loopHead ∧
          fed.bay.profile = x.profile := by
        rw [hfed']
        obtain ⟨_, _, _, h4, h5, _⟩ := heard_rest x.ctrl x.profile y
        exact ⟨h4.trans (hsel.trans h5.symm), h5, rfl⟩
      refine ⟨fun hi => ?_, fun hi hr => ?_⟩
      · refine finish (hbegins.trans ((readEnds_moves (by rw [hzone]; exact hi)).trans ?_)) ?_
        · rw [show jobZone ({ wk with phase := .read i } : Work).job fed = z from hzone, hresult]
          clear_value fed
          subst hfed'
          rfl
        · clear_value fed
          subst hfed'
          rfl
      · refine finish (hbegins.trans ((readEnds_scan (by rw [hzone]; exact hi) hctrl.1
          (by rw [hctrl.2.1, hctrl.2.2]; exact hr)).trans ?_)) ?_
        · rw [show jobZone ({ wk with phase := .read i } : Work).job fed = z from hzone, hresult]
          clear_value fed
          subst hfed'
          rfl
        · clear_value fed
          subst hfed'
          rfl

end Sys2Proof.Machine

namespace Sys2Proof.Machine

/-! SUPPORT. A step that ends writes its result or finds the entry marked, and the boundary holds the bay (R77,
R79, R82, R137); statement O34. -/

section
variable {x : Bay}

/-- A hold cause in the set stays there when an event is raised. -/
theorem Bay.raising_held (k : EventKind) (h : x.sweep.holds.isEmpty = false) :
    (x.raising k).sweep.holds.isEmpty = false := by
  unfold Bay.raising
  split
  · simp [Holds.isEmpty, Holds.none]
  · exact h

/-- The bay once a step's result is written (R77, R137). -/
def Bay.wrote (x : Bay) (h z : Nat) (r : StepResult) : Bay := { x with
  map := mapPut x.map h z ((mapGet x.map h z).write r)
  meas := if r.provisional = true then
      { x.meas with offsetCount := satInc 65535 x.meas.offsetCount } else x.meas
  sweep := { x.sweep with
    work := none, measured := satInc 65535 x.sweep.measured, lastStep := some .written } }

/-- Writing a result and raising an event do not touch each other. -/
theorem Bay.wrote_raising (x : Bay) (h z : Nat) (r : StepResult) (k : EventKind) :
    (x.wrote h z r).raising k = (x.raising k).wrote h z r := by
  unfold Bay.raising
  by_cases hc : x.unit.disposition k = .hold ∧ x.sweep.active = true
  · rw [if_pos hc, if_pos (show (x.wrote h z r).unit.disposition k = .hold ∧ (x.wrote h z r).sweep.active = true from hc)]
    rfl
  · rw [if_neg hc, if_neg (show ¬ ((x.wrote h z r).unit.disposition k = .hold ∧ (x.wrote h z r).sweep.active = true) from hc)]
    rfl

@[simp] theorem Bay.raising_measured (x : Bay) (k : EventKind) :
    (x.raising k).sweep.measured = x.sweep.measured := by
  obtain ⟨h, e⟩ := Bay.raising_sweep x k
  rw [e]

/-- A FAILED result written, the event raised first. -/
theorem Bay.raising_wrote (x : Bay) (h z : Nat) {r : StepResult} (k : EventKind) (hr : r.provisional = false) :
    (x.raising k).wrote h z r = { x.raising k with
      map := mapPut x.map h z ((mapGet x.map h z).write r)
      sweep := { (x.raising k).sweep with
        work := none, measured := satInc 65535 x.sweep.measured, lastStep := some .written } } := by
  rw [Bay.wrote, Bay.raising_measured, if_neg (Bool.eq_false_iff.1 hr)]
  rfl

/-- The bay once a step's result is discarded at a marked entry (R79, R137). -/
def Bay.discarded (x : Bay) : Bay := { x with
  sweep := { x.sweep with
    work := none, skipped := satInc 65535 x.sweep.skipped, lastStep := some .discarded } }

/-- The bay HELD at a boundary (R52, R137). -/
def Bay.heldNow (x : Bay) : Bay := { x with ctrl := { x.ctrl with state := .held, watch := none } }
end

section
variable {c : Ctx} {h z : Nat} {r : StepResult}

theorem writeStep_discards (ha : (mapGet c.bay.map h z).accepted = true) :
    writeStep h z r c = { c with bay := c.bay.discarded } := by
  unfold writeStep writeResult
  exact if_pos ha

theorem writeStep_writes (ha : (mapGet c.bay.map h z).accepted = false) (hf : r.failure = none) :
    writeStep h z r c = { c with bay := c.bay.wrote h z r } := by
  unfold writeStep writeResult
  refine (if_neg (Bool.eq_false_iff.1 ha)).trans ?_
  rw [hf]
  unfold Bay.wrote
  split <;> rfl

theorem writeStep_fails {k : StepKind} {cause : Cause} {n : Nat} (ha : (mapGet c.bay.map h z).accepted = false)
    (hf : r.failure = some (k, cause, n)) : writeStep h z r c = { c with
      bay := (c.bay.raising .stepFailed).wrote h z r
      frames := c.frames ++ c.bay.unit.offers c.id (.stepFailed h z k cause n) } := by
  have hwritten : writeStep h z r c = raise (.stepFailed h z k cause n) { c with bay := c.bay.wrote h z r } := by
    unfold writeStep writeResult
    refine (if_neg (Bool.eq_false_iff.1 ha)).trans ?_
    rw [hf]
    unfold Bay.wrote
    split <;> rfl
  rw [hwritten, raise_eq]
  exact congrArg (fun y : Bay => (⟨c.id, y, _, _, _⟩ : Ctx)) (Bay.wrote_raising c.bay h z r _)

section
variable (hs : c.bay.sweep.seqNext < 65536) (hh : c.bay.sweep.holds.isEmpty = false)
include hs hh

/-- A step that ends at a marked entry, the bay then being HELD (R79, R137). -/
theorem stepEnds_discards (ha : (mapGet c.bay.map h z).accepted = true) :
    stepEnds h z r c = { c with bay := c.bay.discarded.heldNow } := by
  rw [stepEnds, writeStep_discards ha, boundary_of_held (by exact hs) (by exact hh)]
  rfl

/-- A step that ends with a part that is not FAILED, the bay then being HELD (R77, R137). -/
theorem stepEnds_writes (ha : (mapGet c.bay.map h z).accepted = false) (hf : r.failure = none) :
    stepEnds h z r c = { c with bay := (c.bay.wrote h z r).heldNow } := by
  rw [stepEnds, writeStep_writes ha hf, boundary_of_held (by exact hs) (by exact hh)]
  rfl

/-- A step that ends with a FAILED part, the bay then being HELD (R82, R137). -/
theorem stepEnds_fails {k : StepKind} {cause : Cause} {n : Nat} (ha : (mapGet c.bay.map h z).accepted = false)
    (hf : r.failure = some (k, cause, n)) : stepEnds h z r c = { c with
      bay := ((c.bay.raising .stepFailed).wrote h z r).heldNow
      frames := c.frames ++ c.bay.unit.offers c.id (.stepFailed h z k cause n) } := by
  rw [stepEnds, writeStep_fails ha hf, boundary_of_held]
  · rfl
  · rw [show ((c.bay.raising .stepFailed).wrote h z r).sweep.seqNext = (c.bay.raising .stepFailed).sweep.seqNext from rfl,
      Bay.raising_seqNext]
    exact hs
  · exact Bay.raising_held _ hh
end
end

theorem satInc_of_lt {n top : Nat} (h : n < top) : satInc top n = n + 1 := if_pos h

/-- A sample without sync is held by the loop and counts toward servo loss. -/
theorem classify_noSync (s : State) (b : BayIx) (h : Nat) :
    classify ⟨h, none⟩ (s.ctx b) = (s.ctx b, ⟨.noSync, h, false, none, none, none⟩) := classify_of_noSync _ rfl

/-- Settles O34, by the watch's timeout and the boundary's hold check. -/
theorem settleTimeoutFailsStep : Obligations.SettleTimeoutFailsStep := by
  unfold Obligations.SettleTimeoutFailsStep
  intro s b wh h z n w x free e part hbusy hs hw hsel hf hl hwatch hn hset hwork hp hj ha hseq hh hm
  have hon : x.ctrl.state ≠ .offline := by rw [hs]; decide
  have hclass := classify_noSync s b wh
  let y : Sample := ⟨.noSync, wh, false, none, none, none⟩
  have hheard : ((s.ctx b).bay.heard y) = { x with
      acq := { x.acq with loss := x.acq.loss + 1 }, ctrl := { x.ctrl with settle := 0 } } :=
    Bay.heard_unusable hsel (.inl rfl)
  have hacts := sampleActs_timedOut (c := s.ctx b) (y := y) hw hs hwatch (fun _ _ => hl) (by rw [hheard]; exact hset) hn
  have hends : sampleActs y (s.ctx b) = stepEnds h z (.offset part) ((((s.ctx b).hears y).watching none).note .settleTimeout) := by
    rw [hacts, engineSample_timesOut (wk := w) (i := 0) hwork (by simp [hp])]
    simp only [settleTimesOut, hj, measurementFails]
    rfl
  refine row_leaves (y := y) (records := []) (notes := [.settleTimeout]) hbusy hon (by rw [hclass]) ?_
    (List.mem_singleton_self _)
  rw [hclass, hends, stepEnds_fails (k := .offset) (cause := .settleTimeout) (n := w.seq.getD 0) (by exact hseq)
    (by exact hh) (by exact ha) rfl, ← Bay.wrote_raising]
  have hm' : satInc 65535 x.sweep.measured = x.sweep.measured + 1 := satInc_of_lt hm
  simp only [Ctx.hears, Ctx.watching, Ctx.setCtrl, Ctx.note, hheard, Bay.wrote, hm']
  rfl

end Sys2Proof.Machine

namespace Sys2Proof.Machine

/-! SUPPORT. The averaging window in the phases that read it (R88 to R94): open, complete into SWITCH or RETURN,
or timed out; statement O37. -/

section
variable {x : Bay} {y : Sample}

/-- What loss counting changes is gone once the counts are 0. -/
theorem Bay.heard_acq_reset (x : Bay) (y : Sample) :
    { (x.heard y).acq with run := 0, loss := 0 } = { x.acq with run := 0, loss := 0 } := by
  unfold Bay.heard
  simp only
  (repeat' split) <;> rfl

/-- A bay whose watch is disarmed changes its state alone when it is HELD. -/
theorem Bay.heldNow_eq (h : x.ctrl.watch = none) :
    x.heldNow = { x with ctrl := { x.ctrl with state := .held } } := by
  rw [Bay.heldNow, ← h]

/-- The bay once head `h` is selected, another than before (R55). -/
def Bay.selecting (x : Bay) (h : Nat) : Bay := { x with
  acq := { x.acq with run := 0, loss := 0 }
  counter := { x.counter with qp := none, resolved := false }
  ctrl := { x.ctrl with selHead := h, switchWait := x.profile.headSwitchWedges, settle := 0 } }
end

section
variable {c : Ctx} {y : Sample} {wk : Work} {win : Window}

/-- A sample in REF_AVG or HEAD_AVG acts on the window (R87). -/
theorem engineSample_window {before : Window} (hwork : c.bay.sweep.work = some wk)
    (hp : wk.phase = .refAvg ∨ wk.phase = .headAvg) (hwin : c.bay.meas.window = some before) (n : LoopNews) :
    engineSample y n c = windowAfter wk (before.deliver.collect y) c := by
  have hacts : engineSample y n c = windowSample wk y false c := by
    unfold engineSample
    rw [show c.sweep.work = some wk from hwork]
    rcases hp with h | h <;> simp only [h]
  rw [hacts]
  simp [windowSample, Ctx.meas, hwin]

theorem windowAfter_open (h1 : win.collected < win.size) (h2 : win.delivered < 4 * win.size + 64) :
    windowAfter wk win c = c.setMeas { c.bay.meas with window := some win } := by
  rw [windowAfter, if_neg (Nat.not_le.2 h1)]
  exact if_neg (Nat.not_le.2 h2)

theorem windowAfter_completes (h : win.size ≤ win.collected) : windowAfter wk win c = windowCompletes wk win c :=
  if_pos h

theorem windowAfter_timesOut (h1 : win.collected < win.size) (h2 : 4 * win.size + 64 ≤ win.delivered) :
    windowAfter wk win c = windowTimesOut wk win c := by
  rw [windowAfter, if_neg (Nat.not_le.2 h1)]
  exact if_pos h2

/-- Freezing the command with the watch disarmed (R57). -/
theorem freeze_disarmed (h : c.bay.ctrl.watch = none) :
    freeze c = c.setCtrl { c.bay.ctrl with frozen := true, settle := 0 } := by
  rw [freeze, ← h]
  rfl

/-- SWITCH begins: the command is frozen and the measured head selected (R91, R92). -/
theorem beginSwitch_eq {h : Nat} (hh : h = jobHead wk.job c.bay.profile) (hne : h ≠ c.bay.ctrl.selHead)
    (hwatch : c.bay.ctrl.watch = none) : beginSwitch wk c = { c with
      bay := ({ c.bay with
        ctrl := { c.bay.ctrl with frozen := true }
        sweep := { c.bay.sweep with work := some { wk with phase := .switch } } } : Bay).selecting h
      records := c.records ++ [.head h] } := by
  unfold beginSwitch
  rw [show jobHead wk.job c.profile = h from hh.symm, freeze_disarmed (by exact hwatch), headSelect_eq _ (by exact hne)]
  rfl

/-- RETURN begins: ref_head is selected (R93, R94). -/
theorem beginReturn_eq (hne : c.bay.profile.refHead ≠ c.bay.ctrl.selHead) : beginReturn wk c = { c with
      bay := ({ c.bay with
        sweep := { c.bay.sweep with work := some { wk with phase := .retHead }, phaseLimit := 0 } } : Bay).selecting
          c.bay.profile.refHead
      records := c.records ++ [.head c.bay.profile.refHead] } := by
  unfold beginReturn
  rw [show c.profile.refHead = c.bay.profile.refHead from rfl, headSelect_eq c hne]
  rfl

/-- The bay once a planned visit has failed below the third failure, and is HELD (R100, R137, R142). -/
theorem visitEnds_planned_fails (hs : c.bay.sweep.seqNext < 65536) (hh : c.bay.sweep.holds.isEmpty = false)
    (hf : c.bay.meas.failedVisits + 1 < 3) : visitEnds .planned none c = { c with
      bay := ({ c.bay with
        meas := { c.bay.meas with failedVisits := c.bay.meas.failedVisits + 1 }
        sweep := { c.bay.sweep with
          work := none, measured := satInc 65535 c.bay.sweep.measured, lastStep := some .written } } : Bay).heldNow } := by
  have hends : visitEnds .planned none c = boundary (countPlanned .planned
      ((c.setSweep { c.bay.sweep with work := none }).setMeas { c.bay.meas with
        failedVisits := c.bay.meas.failedVisits + 1 })) := if_neg (Nat.not_le.2 hf)
  rw [hends, boundary_of_held (by exact hs) (by exact hh)]
  rfl
end

/-- Settles O37, by the window's counts after the sample. -/
theorem windowsEnd : Obligations.WindowsEnd := by
  unfold Obligations.WindowsEnd
  intro s b w y wk before
  obtain ⟨k, u, hh, fr, hc⟩ := classify_form s b w
  rw [hc]
  intro x c free heard win cause selects hbusy hy hs hw hwatch hwork hwin hl
  have hon : x.ctrl.state ≠ .offline := by rw [hs]; decide
  obtain ⟨_, hwatch', _, hsel', _⟩ := heard_rest x.ctrl x.profile y
  have acts (hp : wk.phase = .refAvg ∨ wk.phase = .headAvg) :
      sampleActs y (classify w (s.ctx b)).1 = windowAfter wk win (c.hears y) := by
    rw [hc, sampleActs_sweep (c := c) hw hs hwatch fun h _ => hl h, engineSample_window (c := c.hears y) hwork hp hwin]
  have hreset : { heard.acq with run := 0, loss := 0 } = { x.acq with run := 0, loss := 0 } :=
    Bay.heard_acq_reset c.bay y
  have back (hsel : x.ctrl.selHead ≠ x.profile.refHead) (wk2 : Work) (notes : List Note) :
      beginReturn wk2 { closeWindow (c.hears y) with notes := notes } =
        ⟨b, { (selects x.profile.refHead { wk2 with phase := .retHead }) with
            sweep := { c.bay.sweep with work := some { wk2 with phase := .retHead }, phaseLimit := 0 } },
          c.frames, [.head x.profile.refHead], notes⟩ := by
    rw [beginReturn_eq (by rw [← hsel'] at hsel; exact hsel.symm), Bay.selecting]
    simp only [selects, ← hreset]
    rfl
  refine ⟨fun hp h1 h2 => ?_, fun h hp h1 hhead hne => ?_, fun hp hsel h1 => ?_, fun i hi h1 h2 => ⟨?_, ?_⟩⟩
  · refine sample_leaves (records := []) (notes := []) hbusy hon hy ((acts hp).trans ?_)
    rw [windowAfter_open h1 h2]
    rfl
  · intro d
    refine sample_leaves (records := [.head h]) (notes := []) hbusy hon hy ((acts (.inl hp)).trans ?_)
    rw [windowAfter_completes h1, windowCompletes]
    simp only [hp]
    rw [beginSwitch_eq (h := h) ?_ (by rw [← hsel'] at hne; exact hne) (by exact hwatch'.trans hwatch), Bay.selecting]
    · simp only [d, selects, ← hreset]
      rfl
    · rw [hhead]
      rfl
  · intro d
    refine sample_leaves (records := [.head x.profile.refHead]) (notes := []) hbusy hon hy ((acts (.inr hp)).trans ?_)
    rw [windowAfter_completes h1, windowCompletes]
    simp only [hp]
    exact back hsel _ []
  all_goals
    have ends {z : Bay} {frames : List EventFrame} {records : List OutRecord} (hp : wk.phase = .refAvg ∨ wk.phase = .headAvg)
        (hz : windowTimesOut wk win (c.hears y) = ⟨b, z, frames, records, [.windowTimeout]⟩) :
        exec i s = .next (free.leaves b z frames (records ++ [.drive z.ctrl.command])) := by
      have hacts := (acts hp).trans ((windowAfter_timesOut h1 h2).trans hz)
      rcases hi with rfl | rfl
      · exact sample_leaves hbusy hon hy hacts
      · exact row_leaves hbusy hon hy hacts (List.mem_singleton_self _)
  · intro hp hseq hheld up holds
    have fails : windowTimesOut wk win (c.hears y) =
        measurementFails wk cause { closeWindow (c.hears y) with notes := [.windowTimeout] } := by
      rw [windowTimesOut]
      simp only [hp]
      rfl
    refine ⟨fun h z hj => ?_, fun hj hf => ?_⟩
    · intro e part d
      refine ⟨fun ha => ?_, fun ha => ?_⟩
      · refine ends (records := []) (.inl hp) ?_
        simp only [fails, measurementFails, hj]
        rw [stepEnds_fails (k := .offset) (cause := cause) (n := wk.seq.getD 0) (by exact hseq) (by exact hheld)
          (by exact ha) rfl, Bay.heldNow_eq (by exact hwatch'.trans hwatch), Bay.raising_wrote _ _ _ _ rfl]
        rfl
      · refine ends (records := []) (.inl hp) ?_
        simp only [fails, measurementFails, hj]
        rw [stepEnds_discards (by exact hseq) (by exact hheld) (by exact ha),
          Bay.heldNow_eq (by exact hwatch'.trans hwatch)]
        rfl
    · refine ends (records := []) (.inl hp) ?_
      simp only [fails, measurementFails, hj]
      rw [visitEnds_planned_fails (by exact hseq) (by exact hheld) (by exact hf),
        Bay.heldNow_eq (by exact hwatch'.trans hwatch)]
      rfl
  · intro hp hsel d
    refine ends (records := [.head x.profile.refHead]) (.inr hp) ?_
    rw [windowTimesOut]
    simp only [hp]
    exact back hsel _ [.windowTimeout]

end Sys2Proof.Machine

namespace Sys2Proof.Machine

/-! SUPPORT. RETURN and what its end forms (R94, R95), SWEEP_RESUME of a HELD bay that goes on with its boundary
(R138, R146), and steps that end at the event that takes them (R96, R142); statement O35. -/

/-! ### RETURN ends (R94, R95) -/

section
variable {c : Ctx} {y : Sample} {wk : Work}

/-- The bay at work once loss counting and the frozen loop have had a POSITION sample, and the command is free
(R38, R57, R61). -/
def Ctx.returned (c : Ctx) : Ctx := { c with
  bay := { c.bay with
    acq := { c.bay.acq with loss := 0 }, ctrl := { c.bay.ctrl with settle := 0, frozen := false } } }

section
variable (hw : c.bay.ctrl.switchWait = 0) (hs : c.bay.ctrl.state = .sweep)
  (hsel : c.bay.ctrl.selHead = c.bay.ctrl.loopHead) (hf : c.bay.ctrl.frozen = true)
  (hwatch : c.bay.ctrl.watch = none) (hcls : y.cls = .position) (hwork : c.bay.sweep.work = some wk)
  (hp : wk.phase = .retHead)
include hw hs hsel hf hwatch hcls hwork hp

theorem sampleActs_returns : sampleActs y c = returnEnds wk { c with
    bay := { c.bay with acq := { c.bay.acq with loss := 0 }, ctrl := { c.bay.ctrl with settle := 0 } } } := by
  have hheard : c.hears y = { c with
      bay := { c.bay with acq := { c.bay.acq with loss := 0 }, ctrl := { c.bay.ctrl with settle := 0 } } } := by
    rw [Ctx.hears, Bay.heard_usable hsel (usable_of_position hcls), heard_held (.inl hf)]
  rw [sampleActs_sweep hw hs hwatch fun _ h => absurd h (usable_of_position hcls), ← hheard]
  unfold engineSample
  simp only [show (c.hears y).sweep.work = some wk from hwork, hp, if_pos hcls]

/-- A cause kept from HEAD_AVG fails the measurement (R95). -/
theorem sampleActs_returns_failing {cause : Cause} (hc : wk.cause = some cause) :
    sampleActs y c = measurementFails wk cause c.returned := by
  rw [sampleActs_returns hw hs hsel hf hwatch hcls hwork hp, returnEnds]
  simp only [hc]
  rfl

/-- Both windows in, the measurement forms its result (R95). -/
theorem sampleActs_returns_forming {a b : WindowResult} (hc : wk.cause = none) (ha : wk.refResult = some a)
    (hb : wk.headResult = some b) : sampleActs y c = measurementForms wk a b c.returned := by
  rw [sampleActs_returns hw hs hsel hf hwatch hcls hwork hp, returnEnds]
  simp only [hc, ha, hb]
  rfl

/-- An OFFSET step ends with some result (R95). -/
theorem sampleActs_returns_offset {h z : Nat} (hj : wk.job = .offset h z) :
    ∃ r, sampleActs y c = stepEnds h z r c.returned := by
  rw [sampleActs_returns hw hs hsel hf hwatch hcls hwork hp, returnEnds]
  simp only [measurementFails, measurementForms, hj]
  split <;> exact ⟨_, rfl⟩
end
end

theorem offsetOf_eq (ref head : WindowResult) :
    offsetOf ref head = max (-32767) (min 32767 (head.mean - ref.mean)) := clampSym_eq _ _

/-- The clamp of ±32,767 changes an offset exactly when its size is above that. -/
theorem rawOffset_ne_offsetOf (ref head : WindowResult) :
    rawOffset ref head ≠ offsetOf ref head ↔ 32767 < (head.mean - ref.mean).natAbs := by
  rw [offsetOf_eq, rawOffset]
  omega

/-- The first finding of a result (R95). -/
theorem findingOf_eq (p : Profile) (ref head : WindowResult) : findingOf p ref head =
    if p.spreadLimit < max ref.spread head.spread then some .spread
    else if head.amplitude < p.amplitudeFloor then some .lowAmplitude
    else if 32767 < (head.mean - ref.mean).natAbs then some .offsetRange else none := by
  simp only [findingOf, rawOffset_ne_offsetOf]
  rfl

/-! ### The boundary after SWEEP_RESUME (R138, R146) -/

theorem Bay.isDue_eq_false {x : Bay} (h1 : x.meas.dueCount = false) (h2 : x.meas.dueTime = false)
    (h3 : x.meas.dueTemp = false) (h4 : x.meas.offsetCount < x.profile.revisitCount)
    (h5 : x.meas.elapsed < x.profile.revisitMs)
    (h6 : ∀ t r, x.thermal.temp = some t → x.thermal.lastRef = some r → (t - r).natAbs < x.profile.revisitDelta) :
    x.isDue = false := by
  have htemp : (match x.thermal.temp, x.thermal.lastRef with
      | some t, some r => decide (x.profile.revisitDelta ≤ (t - r).natAbs)
      | _, _ => false) = false := by
    split
    · exact decide_eq_false (Nat.not_le.2 (h6 _ _ ‹_› ‹_›))
    · rfl
  simp only [Bay.isDue, Bay.triggers, h1, h2, h3, Bool.false_or, decide_eq_false (Nat.not_le.2 h4),
    decide_eq_false (Nat.not_le.2 h5)]
  exact htemp

/-- The HELD bay as SWEEP_RESUME sets it free (R146). -/
def Bay.resumes (x : Bay) : Bay := { x with
  ctrl := { x.ctrl with state := .sweep }, sweep := { x.sweep with holds := ⟨false, false, false, false, false⟩ } }

/-- A SWEEP_RESUME that leaves no cause: the boundary resumes at its step 3 (R146). -/
theorem resume_gives {s : State} {tag : Byte} {b : BayIx} {y : Bay} {frames : List EventFrame}
    {records : List OutRecord} {notes : List Note} {state : Byte} (hs : s.takes ⟨0x45, tag, [b.byte]⟩)
    (ha : (s.bays.get b).sweep.active = true) (hst : (s.bays.get b).ctrl.state = .held)
    (hfree : ({ (s.bays.get b).sweep.holds with host := false, event := false } : Holds).isEmpty = true)
    (hgives : boundaryFrom3 { s.ctx b with bay := (s.bays.get b).resumes } = ⟨b, y, frames, records, notes⟩)
    (hstate : BitVec.ofNat 8 y.ctrl.state.code = state) : exec (.sweepResume tag [b.byte]) s =
      .next (s.grants ⟨0x45, tag, [b.byte]⟩ b y frames records .ok [0, state]) := by
  have hnone : ({ (s.bays.get b).sweep.holds with host := false, event := false } : Holds) = Holds.none :=
    beq_iff_eq.1 hfree
  have hreleased : (s.ctx b).released = (s.ctx b).setSweep { (s.bays.get b).sweep with holds := Holds.none } := by
    rw [← hnone]
    rfl
  refine congrArg Host.Outcome.next (bay_grants hs rfl (congrFun (withBay_byte b sweepResume) _) (notes := notes) ?_)
  have hresumed : resumeIfFree (s.ctx b).released = ⟨b, y, frames, records, notes⟩ := by
    rw [hreleased, resumeIfFree_resumes (by exact hst) rfl, ← hgives]
    rfl
  rw [sweepResume_eq (c := s.ctx b) ha, hresumed, hstate]
  exact congrArg (fun k : Holds => (_, Status.ok, k.bytes ++ [state])) hnone

section
variable {c : Ctx}

/-- With no cause and nothing due the boundary comes to its step 4 unchanged (R138). -/
theorem boundaryStep23_goes_on (hs : c.bay.sweep.seqNext < 65536) (hh : c.bay.sweep.holds.isEmpty = true)
    (hlog : c.bay.meas.log ≠ []) (hdue : c.bay.isDue = false) : boundaryStep23 c = (c, true) := by
  have hlog' : ¬ c.meas.log.isEmpty = true := by simpa using hlog
  have htested : testTriggers c = c := by rw [testTriggers_eq, flagged_of_not_due hdue]
  have hnot : ¬ c.meas.due = true := by
    rw [← htested, testTriggers_due, hdue]
    decide
  rw [boundaryStep23, if_neg (seqUsedUp_of_lt hs), if_pos (show c.sweep.holds.isEmpty = true from hh), boundaryStep3,
    if_neg hlog']
  simp only [htested, if_neg hnot]

/-- A hold cause stops it (R137). -/
theorem boundaryStep23_holds (hs : c.bay.sweep.seqNext < 65536) (hh : c.bay.sweep.holds.isEmpty = false) :
    boundaryStep23 c = ({ c with bay := c.bay.heldNow }, false) := by
  rw [boundaryStep23, if_neg (seqUsedUp_of_lt hs),
    if_neg (show ¬ c.sweep.holds.isEmpty = true from Bool.eq_false_iff.1 hh)]
  rfl

theorem boundaryFrom3_steps (hlog : c.bay.meas.log ≠ []) (hdue : c.bay.isDue = false) :
    boundaryFrom3 c = boundaryFrom4 c := by
  rw [boundaryFrom3_not_due hlog hdue, flagged_of_not_due hdue]

/-- The bay at work with the plan at `p`. -/
def Ctx.planning (c : Ctx) (p : Plan) : Ctx := c.setSweep { c.bay.sweep with plan := some p }

section
variable {d : Ctx} {id : Nat} {r r2 : StepRec} {rest : List StepRec}
  (hprobe : c.bay.sweep.probe = none) (hplan : c.bay.sweep.plan = some (.probe id (r :: r2 :: rest)))
  (ht : takeStep r (c.planning (.probe id (r2 :: rest))) = (d, true))
include hprobe hplan ht

/-- A step that ends at once is followed by a new boundary (R137, R142). -/
theorem boundaryFrom4_goes_on : ∃ n, boundaryFrom4 c =
    if (boundaryStep23 d).2 = true then boundaryStep45 (n + 1) (boundaryStep23 d).1 else (boundaryStep23 d).1 := by
  obtain ⟨n, hn⟩ := boundaryFuel_two hplan
  refine ⟨n, ?_⟩
  have hchoice : (takeProbe c).choice =
      ⟨some r, some (.probe id (r2 :: rest)), c.bay.sweep.stack, c.bay.sweep.basePlan⟩ := by
    rw [takeProbe_none hprobe]
    exact choice_current hplan rfl
  rw [boundaryFrom4, hn, boundaryStep45_goes_on (r := r) (d := d) (by rw [hchoice])]
  rw [hchoice, takeProbe_none hprobe]
  exact ht

/-- Where a hold cause stops it. -/
theorem boundaryFrom4_holds (hs : d.bay.sweep.seqNext < 65536) (hh : d.bay.sweep.holds.isEmpty = false) :
    boundaryFrom4 c = { d with bay := d.bay.heldNow } := by
  obtain ⟨n, hn⟩ := boundaryFrom4_goes_on hprobe hplan ht
  rw [hn, boundaryStep23_holds hs hh]
  rfl

/-- And with a REF step next its planned visit begins. -/
theorem boundaryFrom4_then_ref {z : Zone} (hs : d.bay.sweep.seqNext < 65536) (hh : d.bay.sweep.holds.isEmpty = true)
    (hlog : d.bay.meas.log ≠ []) (hdue : d.bay.isDue = false) (hprobe' : d.bay.sweep.probe = none)
    (hplan' : d.bay.sweep.plan = some (.probe id (r2 :: rest))) (hr : r2.kind = .ref)
    (hz : zoneGet d.bay.zones d.bay.profile.refZone = some z) (htrack : z.track ≤ 524287)
    (hst : d.bay.ctrl.state = .sweep) :
    boundaryFrom4 c = { d with bay := (d.planning (.probe id rest)).bay.visits .planned z.track } := by
  obtain ⟨n, hn⟩ := boundaryFrom4_goes_on hprobe hplan ht
  have htaken : takeProbe d = d := takeProbe_none hprobe'
  rw [hn, boundaryStep23_goes_on hs hh hlog hdue]
  simp only [if_true]
  rw [boundaryStep45_ref (k := ⟨some r2, some (.probe id rest), d.bay.sweep.stack, d.bay.sweep.basePlan⟩)
    (by rw [htaken]; exact choice_current hplan' rfl) rfl hr (by rw [htaken]; exact hz) htrack
    (by rw [htaken]; exact hst), htaken]
  rfl
end

/-! ### Steps that end at the event that takes them (R96, R142) -/

/-- The FAILED part of a step that cannot be made (R142). -/
def StepRec.unmade (r : StepRec) (cause : Cause) (sweep : Nat) : StepResult :=
  match r.kind with
  | .jog => .jog (failedJog cause sweep none none)
  | .offset => .offset (failedOffset cause sweep none none)
  | .ref => .offset (failedOffset cause sweep none none)

theorem unmade_failure {r : StepRec} (hr : r.kind ≠ .ref) (cause : Cause) (sweep : Nat) :
    (r.unmade cause sweep).failure = some (r.kind, cause, 0) := by
  unfold StepRec.unmade
  cases hk : r.kind
  case ref => exact absurd hk hr
  all_goals rfl

theorem unmade_provisional (r : StepRec) (cause : Cause) (sweep : Nat) :
    (r.unmade cause sweep).provisional = false := by
  unfold StepRec.unmade
  cases r.kind <;> rfl

/-- A step whose zone is undefined, or whose head is at or above head_count (R142). -/
theorem takeStep_fails {r : StepRec} {cause : Cause} (hr : r.kind ≠ .ref)
    (ha : (mapGet c.bay.map r.head r.zone).accepted = false)
    (hbad : (zoneGet c.bay.zones r.zone = none ∧ cause = .noZone) ∨
      (zoneGet c.bay.zones r.zone ≠ none ∧ c.bay.profile.headCount ≤ r.head ∧ cause = .noHead)) :
    takeStep r c = (writeStep r.head r.zone (r.unmade cause c.bay.sweep.number) c, true) := by
  have take (jog : Bool) (fail : Cause → StepResult) (hfail : fail = fun cause =>
      if jog then .jog (failedJog cause c.bay.sweep.number none none)
      else .offset (failedOffset cause c.bay.sweep.number none none)) :
      takeMeasuring jog r.head r.zone c = (writeStep r.head r.zone (fail cause) c, true) := by
    subst hfail
    unfold takeMeasuring
    simp only [ha, Bool.false_eq_true, if_false]
    rcases hbad with ⟨hz, rfl⟩ | ⟨hz, hh, rfl⟩
    · rw [hz]
      rfl
    · rw [if_neg (by simpa [Option.isNone_iff_eq_none] using hz)]
      exact if_pos hh
  unfold takeStep StepRec.unmade
  cases hk : r.kind
  case ref => exact absurd hk hr
  case offset => exact take false _ rfl
  case jog => exact take true _ rfl

/-- An OFFSET step of ref_head (R96). -/
theorem takeStep_reference {r : StepRec} (hr : r.kind = .offset) (hh : r.head = c.bay.profile.refHead)
    (ha : (mapGet c.bay.map r.head r.zone).accepted = false) (hz : zoneGet c.bay.zones r.zone ≠ none)
    (hc : r.head < c.bay.profile.headCount) : takeStep r c =
      (writeStep r.head r.zone
        (.offset (referenceOffset c.bay.sweep.number (some c.bay.sweep.seqNext) c.bay.thermal.temp))
        (c.setSweep { c.bay.sweep with seqNext := c.bay.sweep.seqNext + 1 }), true) := by
  unfold takeStep
  simp only [hr]
  unfold takeMeasuring
  simp only [ha, Bool.false_eq_true, if_false]
  rw [if_neg (by simpa [Option.isNone_iff_eq_none] using hz), if_neg (show ¬ c.profile.headCount ≤ r.head from Nat.not_le.2 hc)]
  exact if_pos hh
end

/-- Writing a result when no work is in flight. -/
theorem Bay.raising_wrote_idle (x : Bay) (h z : Nat) {r : StepResult} (k : EventKind) (hr : r.provisional = false)
    (hwork : x.sweep.work = none) : (x.raising k).wrote h z r = { x.raising k with
      map := mapPut x.map h z ((mapGet x.map h z).write r)
      sweep := { (x.raising k).sweep with
        work := x.sweep.work, measured := satInc 65535 x.sweep.measured, lastStep := some .written } } := by
  rw [Bay.raising_wrote x h z k hr, hwork]

end Sys2Proof.Machine

namespace Sys2Proof.Machine

/-! SUPPORT. Statement O35: an OFFSET step's result in RETURN, and steps that write their part at the event that
takes them. -/

section
variable {s : State} {tag : Byte} {b : BayIx} {zr : Zone} {id : Nat} {r r2 : StepRec} {rest : List StepRec}

/-- The bay at work as its boundary comes to step 4 after a SWEEP_RESUME. -/
def State.resumed (s : State) (b : BayIx) : Ctx := { s.ctx b with bay := (s.bays.get b).resumes }

theorem canStep_not_due {x : Bay} (h : x.canStep zr) : x.isDue = false := by
  obtain ⟨_, _, _, _, h1, h2, h3, h4, h5, h6, _⟩ := h
  exact Bay.isDue_eq_false h1 h2 h3 h4 h5 fun t r ht hr => h6 t ht r hr

/-- SWEEP_RESUME of a bay whose boundary comes to step 4. -/
theorem canStep_gives {y : Bay} {frames : List EventFrame} {records : List OutRecord} {notes : List Note}
    {state : Byte} (hs : s.takes ⟨0x45, tag, [b.byte]⟩) (hx : (s.bays.get b).canStep zr)
    (hgives : boundaryFrom4 (s.resumed b) = ⟨b, y, frames, records, notes⟩)
    (hstate : BitVec.ofNat 8 y.ctrl.state.code = state) : exec (.sweepResume tag [b.byte]) s =
      .next (s.grants ⟨0x45, tag, [b.byte]⟩ b y frames records .ok [0, state]) := by
  have hdue := canStep_not_due hx
  obtain ⟨ha, hst, hfree, hlog, _⟩ := hx
  exact resume_gives hs ha hst hfree ((boundaryFrom3_steps hlog hdue).trans hgives) hstate

/-- The visit that follows a step which ended at once. -/
theorem canStep_then_ref {d : Ctx} {y : Bay} {frames : List EventFrame} {m : Table Entry} {u : EventUnit}
    {sw : Sweep} (hs : s.takes ⟨0x45, tag, [b.byte]⟩) (hx : (s.bays.get b).canStep zr)
    (hprobe : (s.bays.get b).sweep.probe = none)
    (hplan : (s.bays.get b).sweep.plan = some (.probe id (r :: r2 :: rest))) (hr : r2.kind = .ref)
    (ht : takeStep r ((s.resumed b).planning (.probe id (r2 :: rest))) = (d, true))
    (hd : d = ⟨b, { (s.bays.get b).resumes with map := m, unit := u, sweep := sw }, frames, [], []⟩)
    (hseq : sw.seqNext < 65536) (hholds : sw.holds.isEmpty = true) (hprobe' : sw.probe = none)
    (hplan' : sw.plan = some (.probe id (r2 :: rest)))
    (hy : (d.planning (.probe id rest)).bay.visits .planned zr.track = y) : exec (.sweepResume tag [b.byte]) s =
      .next (s.grants ⟨0x45, tag, [b.byte]⟩ b y frames [] .ok [0, 4]) := by
  have hdue := canStep_not_due hx
  have hx' := hx
  obtain ⟨_, _, _, hlog, _, _, _, _, _, _, _, hz, htrack⟩ := hx'
  subst hd hy
  refine canStep_gives (notes := []) hs hx ?_ rfl
  rw [boundaryFrom4_then_ref (z := zr) (by exact hprobe) (by exact hplan) ht hseq hholds hlog hdue hprobe' hplan' hr hz
    htrack rfl]
end

/-- An event that is not routed to HOLD sets its flag alone (R166). -/
theorem Bay.raising_of_not_hold {x : Bay} {k : EventKind} (h : x.unit.disposition k ≠ .hold) :
    x.raising k = { x with unit := x.unit.setFlag k } := by
  rw [Bay.raising, if_neg fun h' => h h'.1]

theorem Bay.raising_of_hold {x : Bay} {k : EventKind} (h : x.unit.disposition k = .hold)
    (ha : x.sweep.active = true) : x.raising k = { x with
      unit := x.unit.setFlag k, sweep := { x.sweep with holds := { x.sweep.holds with event := true } } } := by
  rw [Bay.raising, if_pos ⟨h, ha⟩]

/-- Settles O35, by the entry's mark and the kept cause, and by the checks of the step in front. -/
theorem offsetStepsAreWritten : Obligations.OffsetStepsAreWritten := by
  unfold Obligations.OffsetStepsAreWritten
  refine ⟨?_, ?_⟩
  · intro s b w wk h z
    obtain ⟨k, u, hh, fr, hc⟩ := classify_form s b w
    rw [hc]
    intro x c free e up holds hbusy hcls hs hw hsel hf hwatch hwork hp hj hseq hheld
    have hon : x.ctrl.state ≠ .offline := by rw [hs]; decide
    have leaves {z : Bay} {frames : List EventFrame} (hz : sampleActs (classify w (s.ctx b)).2 c = ⟨b, z, frames, [], []⟩) :
        exec .demodComplete s = .next (free.leaves b z frames [.drive z.ctrl.command]) :=
      sample_leaves hbusy hon rfl (by rw [hc]; exact hz)
    have formed {a a' : WindowResult} (h1 : wk.cause = none) (h2 : wk.refResult = some a) (h3 : wk.headResult = some a') :
        sampleActs (classify w (s.ctx b)).2 c =
          stepEnds h z (.offset (measuredOffset x.profile a a' x.sweep.number wk.seq wk.temp)) c.returned := by
      rw [sampleActs_returns_forming (c := c) hw hs hsel hf hwatch hcls hwork hp h1 h2 h3]
      simp only [measurementForms, hj]
      rfl
    have failed {cause : Cause} (h1 : wk.cause = some cause) : sampleActs (classify w (s.ctx b)).2 c =
        stepEnds h z (.offset (failedOffset cause x.sweep.number wk.seq wk.temp)) c.returned := by
      rw [sampleActs_returns_failing (c := c) hw hs hsel hf hwatch hcls hwork hp h1]
      simp only [measurementFails, hj]
      rfl
    refine ⟨fun ha => ?_, fun a a' h1 h2 h3 ha => ?_, fun cause h1 ha => ?_⟩
    · obtain ⟨r, hr⟩ := sampleActs_returns_offset (c := c) hw hs hsel hf hwatch hcls hwork hp hj
      refine leaves ?_
      rw [hr, stepEnds_discards (by exact hseq) (by exact hheld) (by exact ha)]
      rfl
    · intro raw spread finding part
      refine leaves ?_
      have hpart : measuredOffset x.profile a a' x.sweep.number wk.seq wk.temp = part := by
        rw [measuredOffset, findingOf_eq, offsetOf_eq]
        rfl
      rw [formed h1 h2 h3, hpart, stepEnds_writes (by exact hseq) (by exact hheld) (by exact ha) rfl]
      rfl
    · intro part d
      refine leaves ?_
      rw [failed h1, stepEnds_fails (k := .offset) (cause := cause) (n := wk.seq.getD 0) (by exact hseq) (by exact hheld)
        (by exact ha) rfl, Bay.raising_wrote _ _ _ _ rfl]
      rfl
  · intro s tag b zr id r r2 rest x g e cause up bad unmade failed counted visits gives hs hx hprobe hplan hr2 hr ha
    have hx' := hx
    obtain ⟨hact, hst, _, hlog, _, _, _, _, _, _, hseq, hz, htrack⟩ := hx'
    refine ⟨fun hbad => ?_, fun hbad hk hhead hseq' => ?_⟩
    · intro y frames
      have hcause : (zoneGet x.zones r.zone = none ∧ cause = .noZone) ∨
          (zoneGet x.zones r.zone ≠ none ∧ x.profile.headCount ≤ r.head ∧ cause = .noHead) := by
        by_cases hz0 : zoneGet x.zones r.zone = none
        · exact .inl ⟨hz0, if_pos hz0⟩
        · exact .inr ⟨hz0, hbad.resolve_left hz0, if_neg hz0⟩
      have ht := (takeStep_fails (c := (s.resumed b).planning (.probe id (r2 :: rest))) hr ha hcause).trans
        (congrArg (·, true) (writeStep_fails (by exact ha) (unmade_failure hr cause _)))
      have hentry : failed = e.write (r.unmade cause x.sweep.number) := by
        simp only [failed, StepRec.unmade]
        cases r.kind <;> rfl
      clear_value failed
      subst hentry
      refine ⟨fun hd => ?_, fun hd hwork => ?_⟩
      · rw [Bay.raising_wrote _ _ _ _ (unmade_provisional ..), Bay.raising_of_not_hold (by exact hd)] at ht
        exact canStep_then_ref hs hx hprobe hplan hr2 ht rfl hseq rfl hprobe rfl rfl
      · rw [Bay.raising_wrote_idle _ _ _ _ (unmade_provisional ..) (by exact hwork),
          Bay.raising_of_hold (by exact hd) (by exact hact)] at ht
        refine canStep_gives (notes := []) hs hx
          ((boundaryFrom4_holds (c := s.resumed b) (by exact hprobe) (by exact hplan) ht hseq rfl).trans ?_)
          (congrArg (fun st : BayState => BitVec.ofNat 8 st.code) hst)
        rw [Bay.heldNow, show BayState.held = x.ctrl.state from hst.symm]
        rfl
    · intro zero sw
      obtain ⟨hz0, hh0⟩ := not_or.1 hbad
      have ht := (takeStep_reference (c := (s.resumed b).planning (.probe id (r2 :: rest))) hk hhead ha hz0
        (Nat.not_le.1 hh0)).trans (congrArg (·, true) (writeStep_writes (by exact ha) rfl))
      exact canStep_then_ref hs hx hprobe hplan hr2 ht rfl hseq' rfl hprobe rfl rfl

end Sys2Proof.Machine

namespace Sys2Proof.Machine

/-! SUPPORT. How work that measures begins at a boundary (R90, R116, R142); statement O45. -/

section
variable {c : Ctx} {w : Work}

/-- A JOG step on the loop head, the loop seeded, begins SEEK at once (R116). -/
theorem beginLoopSwitch_seeks (hh : jobHead w.job c.bay.profile = c.bay.ctrl.loopHead)
    (hn : c.bay.ctrl.targetNow ≠ none) : beginLoopSwitch w c = { c with
      bay := ({ c.bay with sweep := { c.bay.sweep with phaseLimit := 0 } } : Bay).seeks { w with phase := .seek }
        (clampTarget (jobZone w.job c).centre) } := by
  have hseeds : beginLoopSwitch w c = beginSeek w (startLimit c) :=
    if_pos ⟨hh, Option.isSome_iff_ne_none.2 hn⟩
  rw [hseeds, beginSeek_eq]
  rfl

/-- On the loop head, the loop not seeded, it waits for the seeding sample (R116). -/
theorem beginLoopSwitch_waits (hh : jobHead w.job c.bay.profile = c.bay.ctrl.loopHead)
    (hsel : c.bay.ctrl.selHead = c.bay.ctrl.loopHead) (hn : c.bay.ctrl.targetNow = none) : beginLoopSwitch w c = { c with
      bay := { c.bay with
        sweep := { c.bay.sweep with work := some { w with phase := .loopSwitchOut }, phaseLimit := 0 } } } := by
  have hwaits : beginLoopSwitch w c = startLimit (setWork { w with phase := .loopSwitchOut }
      (setLoopHead (jobHead w.job c.profile) c)) := by
    refine if_neg fun h => ?_
    rw [show c.ctrl.targetNow = none from hn] at h
    exact absurd h.2 (by decide)
  rw [hwaits, setLoopHead_same c (by exact hh) (by exact hh.trans hsel.symm)]
  rfl

/-- Another head becomes the loop head, with a HEAD record and a switch wait (R55, R56, R116). -/
theorem beginLoopSwitch_switches (hh : jobHead w.job c.bay.profile ≠ c.bay.ctrl.loopHead)
    (hsel : c.bay.ctrl.selHead = c.bay.ctrl.loopHead) : beginLoopSwitch w c = { c with
      bay := ({ c.bay with
        sweep := { c.bay.sweep with work := some { w with phase := .loopSwitchOut }, phaseLimit := 0 } } : Bay).onHead
          (jobHead w.job c.bay.profile)
      records := c.records ++ [.head (jobHead w.job c.bay.profile)] } := by
  have hswitches : beginLoopSwitch w c = startLimit (setWork { w with phase := .loopSwitchOut }
      (setLoopHead (jobHead w.job c.profile) c)) := if_neg fun h => hh h.1
  rw [hswitches, setLoopHead_eq c hsel (by exact hh)]
  rfl

section
variable {r : StepRec} {a : Zone} (ha : (mapGet c.bay.map r.head r.zone).accepted = false)
  (hz : zoneGet c.bay.zones r.zone = some a) (hc : r.head < c.bay.profile.headCount)
include ha hz hc

/-- An OFFSET step that passes the checks begins its SEEK (R90, R142). -/
theorem takeStep_offset (hr : r.kind = .offset) (hh : r.head ≠ c.bay.profile.refHead) (ht : a.track ≤ 524287) :
    takeStep r c = ({ c with
      bay := c.bay.seeks ⟨.offset r.head r.zone, .seek, none, none, none, none, none, [], none⟩ (a.track * 4096) },
      false) := by
  have htakes : takeStep r c = (beginSeek (Work.fresh (.offset r.head r.zone) .seek) c, false) := by
    unfold takeStep
    simp only [hr]
    unfold takeMeasuring
    simp only [ha, Bool.false_eq_true, if_false]
    rw [if_neg (by simp [hz]), if_neg (show ¬ c.profile.headCount ≤ r.head from Nat.not_le.2 hc)]
    exact if_neg hh
  have hzone : jobZone (.offset r.head r.zone) c = a := congrArg (·.getD ⟨0, 0, 16⟩) hz
  rw [htakes, beginSeek_eq, show (Work.fresh (.offset r.head r.zone) .seek).job = .offset r.head r.zone from rfl,
    hzone, clampTarget_centre ht]
  rfl

/-- A JOG step that passes the checks begins its outbound LOOP_SWITCH (R116, R142). -/
theorem takeStep_jog (hr : r.kind = .jog) : takeStep r c =
    (beginLoopSwitch ⟨.jog r.head r.zone, .loopSwitchOut, none, none, none, none, none, [], none⟩ c, false) := by
  unfold takeStep
  simp only [hr]
  unfold takeMeasuring
  simp only [ha, Bool.false_eq_true, if_false]
  rw [if_neg (by simp [hz]), if_neg (show ¬ c.profile.headCount ≤ r.head from Nat.not_le.2 hc)]
  rfl
end

/-- The step in front begins, with the plan after it (R139, R142). -/
theorem boundaryFrom4_begins {id : Nat} {r : StepRec} {rest : List StepRec} {d : Ctx}
    (hprobe : c.bay.sweep.probe = none) (hplan : c.bay.sweep.plan = some (.probe id (r :: rest)))
    (ht : takeStep r (c.planning (.probe id rest)) = (d, false)) : boundaryFrom4 c = d := by
  obtain ⟨n, hn⟩ := boundaryFuel_pos c
  have hchoice : (takeProbe c).choice =
      ⟨some r, some (.probe id rest), c.bay.sweep.stack, c.bay.sweep.basePlan⟩ := by
    rw [takeProbe_none hprobe]
    exact choice_current hplan rfl
  rw [boundaryFrom4, hn, boundaryStep45_begins (r := r) (d := d) (by rw [hchoice])]
  rw [hchoice, takeProbe_none hprobe]
  exact ht
end

/-- Settles O45, by the triggers, and by the kind and head of the step in front. -/
theorem boundaryBeginsWork : Obligations.BoundaryBeginsWork := by
  unfold Obligations.BoundaryBeginsWork
  intro s tag b z x g y gives hs hz ht
  refine ⟨fun ha hst hlog hfree hdue => ?_, fun id r rest a hx hprobe hplan hacc ha hta hc => ?_⟩
  · refine resume_gives (notes := []) hs ha hst hfree
      ((boundaryFrom3_due (by exact hlog) (by exact hdue)).trans ((beginVisit_eq _ .onTrigger hz ht rfl).trans ?_)) rfl
    rfl
  · intro sw jog jogs waits
    have begins {d : Bay} {records : List OutRecord}
        (h : takeStep r ((s.resumed b).planning (.probe id rest)) = (⟨b, d, [], records, []⟩, false))
        (hst : d.ctrl.state = .sweep) : gives d records :=
      canStep_gives hs hx (boundaryFrom4_begins (c := s.resumed b) hprobe hplan h) (by rw [hst]; rfl)
    have hzone : clampTarget (jobZone (.jog r.head r.zone) ((s.resumed b).planning (.probe id rest))).centre =
        a.track * 4096 := by
      rw [show jobZone (.jog r.head r.zone) ((s.resumed b).planning (.probe id rest)) = a from
        congrArg (·.getD ⟨0, 0, 16⟩) ha]
      exact clampTarget_centre hta
    have hjog (hk : r.kind = .jog) := takeStep_jog (c := (s.resumed b).planning (.probe id rest)) hacc ha hc hk
    refine ⟨fun hk hhead => ?_, fun hk hsel => ⟨fun hh => ?_, fun hh hn => ?_, fun hh hn => ?_⟩⟩
    · exact begins (takeStep_offset (c := (s.resumed b).planning (.probe id rest)) hacc ha hc hk hhead hta) rfl
    · refine begins ((hjog hk).trans ?_) rfl
      rw [beginLoopSwitch_switches (by exact hh) hsel]
      rfl
    · refine begins ((hjog hk).trans ?_) rfl
      rw [beginLoopSwitch_waits (by exact hh) hsel (by exact hn)]
      rfl
    · refine begins ((hjog hk).trans ?_) rfl
      rw [beginLoopSwitch_seeks (by exact hh) (by exact hn), hzone]
      rfl

end Sys2Proof.Machine

namespace Sys2Proof.Machine

/-! SUPPORT. A pending probe, the resume stack and the end of every plan at a boundary (R139 to R141, R149);
statement O44. -/

section
variable {c : Ctx}

/-! ### COMPLETE (R53, R149) -/

/-- The bay once its sweep has ended COMPLETE on the reference head (R53, R149). -/
def Bay.completed (x : Bay) : Bay := { x with
  ctrl := { x.ctrl with state := .follow, frozen := false, watch := none }
  meas := { x.meas with window := none }
  pattern := { x.pattern with write := none, capture := none }
  sweep := { x.sweep with
    active := false, work := none, phaseLimit := 0, probe := none, stack := [], plan := none, basePlan := .finished
    holds := ⟨false, false, false, false, false⟩, lastOutcome := some .complete }
  unit := x.unit.setFlag .sweepDone }

/-- The bay once steps 1 to 4 of R149 have ended its sweep COMPLETE. -/
def Bay.finished (x : Bay) : Bay := { x with
  meas := { x.meas with window := none }
  pattern := { x.pattern with write := none, capture := none }
  sweep := { x.sweep with
    active := false, work := none, phaseLimit := 0, probe := none, stack := [], plan := none, basePlan := .finished
    holds := ⟨false, false, false, false, false⟩, lastOutcome := some .complete } }

theorem endCore_complete : endCore .complete c = { c with
    bay := { c.bay.finished with unit := c.bay.unit.setFlag .sweepDone }
    frames := c.frames ++ c.bay.unit.offers c.id (.sweepDone c.bay.sweep.number .complete c.bay.sweep.measured
      c.bay.sweep.skipped c.bay.sweep.lost (suspectCount c.bay.map c.bay.sweep.number)) } := by
  have hid : (endCore .complete c).id = c.id := id_of_kept (endCore_kept c .complete)
  have hrec : (endCore .complete c).records = c.records := by
    simp [endCore, dropWork, closeWindow, endWrite, closeCapture]
  have hnote : (endCore .complete c).notes = c.notes := by
    simp [endCore, dropWork, closeWindow, endWrite, closeCapture]
  have hframes : (endCore .complete c).frames = c.frames ++ c.bay.unit.offers c.id (.sweepDone c.bay.sweep.number
      .complete c.bay.sweep.measured c.bay.sweep.skipped c.bay.sweep.lost
      (suspectCount c.bay.map c.bay.sweep.number)) := by
    unfold endCore
    rw [raise_frames]
    simp [dropWork, closeWindow, endWrite, closeCapture]
  have hbay : (endCore .complete c).bay = { c.bay.finished with unit := c.bay.unit.setFlag .sweepDone } := by
    unfold endCore
    rw [raise_bay]
    simp [Bay.raising, Bay.finished, Holds.none, dropWork, closeWindow, endWrite, closeCapture]
  rw [← hbay, ← hframes, ← hid, ← hrec, ← hnote]

theorem endSweep_complete (hl : c.bay.profile.refHead = c.bay.ctrl.loopHead)
    (hs : c.bay.profile.refHead = c.bay.ctrl.selHead) : endSweep .complete c = { c with
      bay := c.bay.completed
      frames := c.frames ++ c.bay.unit.offers c.id (.sweepDone c.bay.sweep.number .complete c.bay.sweep.measured
        c.bay.sweep.skipped c.bay.sweep.lost (suspectCount c.bay.map c.bay.sweep.number)) } := by
  rw [endSweep, endCore_complete, restoreRef, setLoopHead_same _ (by exact hl) (by exact hs)]
  rfl

/-! ### A pending probe (R139, R140) -/

section
variable {id : Nat} {steps : List StepRec} {p : Plan} (hprobe : c.bay.sweep.probe = some (id, steps))
  (hplan : c.bay.sweep.plan = some p)
include hprobe hplan

/-- A current plan with steps left is suspended (R139, R140). -/
theorem takeProbe_suspends (hp : (nextOf c.bay.store p).isSome = true) (hroom : c.bay.sweep.stack.length < 4) :
    takeProbe c = c.setSweep { c.bay.sweep with
      stack := p :: c.bay.sweep.stack, plan := some (.probe id steps), probe := none } := by
  simp only [takeProbe, show c.sweep.probe = some (id, steps) from hprobe, show c.sweep.plan = some p from hplan, hp,
    if_true, pushPlan]
  rw [if_pos (show c.sweep.stack.length < Config.stackDepth from hroom)]
  rfl

/-- The bay as a plan is suspended on a full stack of `upper` above `oldest` (R140). -/
def Bay.suspending (x : Bay) (p : Plan) (upper : List Plan) (oldest : Plan) : Bay := { x with
  sweep := { x.sweep with
    stack := p :: upper, lost := satInc 65535 x.sweep.lost
    basePlan := match oldest with
      | .base _ => .lost
      | .probe _ _ => x.sweep.basePlan } }

/-- A full stack loses its oldest plan (R140). -/
theorem takeProbe_loses {upper : List Plan} {oldest : Plan} (hp : (nextOf c.bay.store p).isSome = true)
    (hstack : c.bay.sweep.stack = upper ++ [oldest]) (hfull : upper.length = 3) : takeProbe c = { c with
      bay := { (c.bay.raising .resumeLost).suspending p upper oldest with
        sweep := { ((c.bay.raising .resumeLost).suspending p upper oldest).sweep with
          plan := some (.probe id steps), probe := none } }
      frames := c.frames ++ c.bay.unit.offers c.id (.resumeLost oldest) } := by
  have hdepth : ¬ c.sweep.stack.length < Config.stackDepth := by
    rw [show c.sweep.stack = upper ++ [oldest] from hstack, List.length_append, hfull]
    exact Nat.lt_irrefl 4
  have hlast : c.sweep.stack.getLastD p = oldest := by
    rw [show c.sweep.stack = upper ++ [oldest] from hstack]
    simp
  have hdrop : c.sweep.stack.dropLast = upper := by
    rw [show c.sweep.stack = upper ++ [oldest] from hstack, List.dropLast_concat]
  simp only [takeProbe, show c.sweep.probe = some (id, steps) from hprobe, show c.sweep.plan = some p from hplan, hp,
    if_true, pushPlan]
  rw [if_neg hdepth, hlast, hdrop, raise_eq]
  by_cases hd : c.bay.unit.disposition .resumeLost = .hold ∧ c.bay.sweep.active = true
  · rw [Bay.raising_of_hold (by exact hd.1) (by exact hd.2), Bay.raising_of_hold hd.1 hd.2]
    rfl
  · rw [Bay.raising, Bay.raising, if_neg hd, if_neg (by exact hd)]
    rfl

/-- A current plan without steps is finished (R139). -/
theorem takeProbe_finishes (hp : nextOf c.bay.store p = none) :
    takeProbe c = c.setSweep { c.bay.sweep with
      basePlan := finishPlan (some p) c.bay.sweep.basePlan, plan := some (.probe id steps), probe := none } := by
  simp only [takeProbe, show c.sweep.probe = some (id, steps) from hprobe, show c.sweep.plan = some p from hplan, hp,
    Option.isSome_none, Bool.false_eq_true, if_false]
  rfl
end

theorem nextOf_base {store : List StepRec} {i : Nat} {r : StepRec} (h : store[i]? = some r) :
    nextOf store (.base i) = some (r, .base (i + 1)) := by
  simp [nextOf, h]

theorem nextOf_base_none {store : List StepRec} {i : Nat} (h : store.length ≤ i) : nextOf store (.base i) = none := by
  simp [nextOf, h]

theorem nextOf_base_isSome {store : List StepRec} {i : Nat} (h : i < store.length) :
    (nextOf store (.base i)).isSome = true := by
  simp [nextOf, h]

/-- A REF step that step 5 chooses begins its planned visit (R141, R142). -/
theorem boundaryFrom4_ref {d : Ctx} {k : Chosen} {r : StepRec} {z : Zone} (hd : takeProbe c = d) (hk : d.choice = k)
    (hstep : k.step = some r) (hr : r.kind = .ref) (hz : zoneGet d.bay.zones d.bay.profile.refZone = some z)
    (ht : z.track ≤ 524287) (hs : d.bay.ctrl.state = .sweep) :
    boundaryFrom4 c = { d with bay := (d.choosing k).bay.visits .planned z.track } := by
  obtain ⟨n, hn⟩ := boundaryFuel_pos c
  subst hd
  rw [boundaryFrom4, hn, boundaryStep45_ref hk hstep hr hz ht hs]

/-- With every plan exhausted the closing visit begins, or the sweep is COMPLETE (R104). -/
theorem boundaryFrom4_ends {k : Chosen} (hprobe : c.bay.sweep.probe = none) (hk : c.choice = k) (hstep : k.step = none) :
    boundaryFrom4 c =
      if anyProvisional c.bay.map = true then beginVisit .closing (c.choosing k) else endSweep .complete (c.choosing k) := by
  obtain ⟨n, hn⟩ := boundaryFuel_pos c
  have htaken : takeProbe c = c := takeProbe_none hprobe
  rw [boundaryFrom4, hn, boundaryStep45_ends (by rw [htaken, hk]; exact hstep), htaken, hk]

/-- A step aimed at a marked entry is SKIPPED (R78). -/
theorem takeStep_skips {r : StepRec} (hr : r.kind ≠ .ref) (ha : (mapGet c.bay.map r.head r.zone).accepted = true) :
    takeStep r c = (c.setSweep { c.bay.sweep with
      skipped := satInc 65535 c.bay.sweep.skipped, lastStep := some .skipped }, true) := by
  unfold takeStep
  cases hk : r.kind
  case ref => exact absurd hk hr
  case offset => exact if_pos ha
  case jog => exact if_pos ha
end

/-- Settles O44, by the pending probe, the plan, the stack and the step chosen. -/
theorem boundaryTakesSteps : Obligations.BoundaryTakesSteps := by
  unfold Obligations.BoundaryTakesSteps
  intro s tag b z x g left idle on runs gives hs ha hst hfree hlog h1 h2 h3 h4 h5 h6 hz ht
  have hdue : x.isDue = false := Bay.isDue_eq_false h1 h2 h3 h4 h5 h6
  have steps {y : Bay} {frames : List EventFrame} {state : Byte}
      (h : boundaryFrom4 (s.resumed b) = ⟨b, y, frames, [], []⟩) (hstate : BitVec.ofNat 8 y.ctrl.state.code = state) :
      gives y frames state :=
    resume_gives hs ha hst hfree ((boundaryFrom3_steps (by exact hlog) (by exact hdue)).trans h) hstate
  refine ⟨fun id r rest i hprobe hr hplan => ?_, fun hprobe => ⟨fun id r rest hplan hr => ?_,
    fun id i r more hplan hstack hi hr => ?_, fun id r r2 rest hplan hr hacc hr2 hseq hskip => ?_,
    fun i hplan hi hstack => ⟨fun hany => ?_, fun hany hloop hsel => ?_⟩⟩⟩
  · intro probed
    refine ⟨fun hi hroom => ?_, fun upper oldest hi hstack hfull => ?_, fun hi => ?_⟩
    · refine steps ((boundaryFrom4_ref (takeProbe_suspends (c := s.resumed b) hprobe hplan (nextOf_base_isSome hi) hroom)
        (choice_current rfl rfl) rfl hr hz ht rfl).trans ?_) rfl
      rfl
    · refine steps ((boundaryFrom4_ref (takeProbe_loses (c := s.resumed b) hprobe hplan (nextOf_base_isSome hi) hstack hfull)
        (choice_current rfl rfl) rfl hr hz ht rfl).trans ?_) rfl
      by_cases hd : x.unit.disposition .resumeLost = .hold
      · rw [Bay.raising_of_hold (by exact hd) (by exact ha), Bay.raising_of_hold (by exact hd) (by exact ha)]
        rfl
      · rw [Bay.raising_of_not_hold (by exact hd), Bay.raising_of_not_hold (by exact hd)]
        rfl
    · refine steps ((boundaryFrom4_ref (takeProbe_finishes (c := s.resumed b) hprobe hplan (nextOf_base_none hi))
        (choice_current rfl rfl) rfl hr hz ht rfl).trans ?_) rfl
      rfl
  · refine steps ((boundaryFrom4_ref (takeProbe_none (c := s.resumed b) hprobe)
      (choice_current hplan rfl) rfl hr hz ht rfl).trans ?_) rfl
    rfl
  · have hchoice : (s.resumed b).choice = ⟨some r, some (.base (i + 1)), more, x.sweep.basePlan⟩ := by
      rw [Ctx.choice, show (s.resumed b).sweep.plan = some (.probe id []) from hplan,
        show (s.resumed b).sweep.stack = .base i :: more from hstack, chooseStep_pops rfl]
      exact chooseStep_current (nextOf_base hi) _ _
    refine steps ((boundaryFrom4_ref (takeProbe_none (c := s.resumed b) hprobe) hchoice rfl hr hz ht rfl).trans ?_) rfl
    rfl
  · have hskip' : satInc 65535 x.sweep.skipped = x.sweep.skipped + 1 := satInc_of_lt hskip
    have htake := takeStep_skips (c := (s.resumed b).planning (.probe id (r2 :: rest))) hr hacc
    refine steps ((boundaryFrom4_then_ref (c := s.resumed b) hprobe hplan htake hseq rfl hlog hdue hprobe rfl hr2 hz ht
      rfl).trans ?_) rfl
    simp only [Ctx.planning, Ctx.setSweep, State.resumed, Bay.resumes]
    rw [← hskip']
    rfl
  all_goals
    have hchoice : (s.resumed b).choice = ⟨none, none, x.sweep.stack, .finished⟩ := by
      rw [Ctx.choice, show (s.resumed b).sweep.plan = some (.base i) from hplan,
        show (s.resumed b).sweep.stack = [] from hstack, hstack]
      exact chooseStep_exhausted (nextOf_base_none hi) _
    have hends := boundaryFrom4_ends (c := s.resumed b) hprobe hchoice rfl
  · refine steps ((hends.trans (if_pos hany)).trans ((beginVisit_eq _ .closing hz ht rfl).trans ?_)) rfl
    rfl
  · refine steps ((hends.trans (if_neg (Bool.eq_false_iff.1 hany))).trans
      ((endSweep_complete (by exact hloop.symm) (by exact hsel.symm)).trans ?_)) rfl
    rw [Bay.completed, ← hprobe, ← hstack]
    rfl

end Sys2Proof.Machine

namespace Sys2Proof.Machine

/-! SUPPORT. What a reference visit leaves when it succeeds and when it fails (R80, R98 to R103), and statement
O42. -/

/-! ### The map under drift correction (R80, R102) -/

/-- An entry with its PROVISIONAL part changed by `f`. -/
def Entry.revised (f : OffsetPart → OffsetPart) (e : Entry) : Entry :=
  match e.offset with
  | some p => if p.status = .provisional then { e with offset := some (f p) } else e
  | none => e

theorem get_mapProvisional_revised (f : OffsetPart → OffsetPart) (m : Table Entry) (i : Nat) :
    Table.get Entry.empty (mapProvisional f m) i = (Table.get Entry.empty m i).revised f := by
  induction m with
  | nil => rfl
  | cons kv rest ih =>
    obtain ⟨k, e⟩ := kv
    have hcons : mapProvisional f ((k, e) :: rest) = (k, e.revised f) :: mapProvisional f rest := by
      simp only [mapProvisional, List.map_cons, Entry.revised]
      cases he : e.offset with
      | none => rfl
      | some p => by_cases hp : p.status = .provisional <;> simp [hp]
    rw [hcons, Table.get, Table.get]
    split
    · rfl
    · exact ih

theorem mapGet_mapProvisional (f : OffsetPart → OffsetPart) (m : Table Entry) (h z : Nat) :
    mapGet (mapProvisional f m) h z = (mapGet m h z).revised f := get_mapProvisional_revised f m _

theorem appendLog_form (log : List RefRecord) (r : RefRecord) :
    appendLog log r = (if log.length < 64 then log else log.take 1 ++ log.drop 2) ++ [r] := by
  unfold appendLog
  by_cases h : log.length < 64
  · rw [if_pos (show log.length < Config.logSize from h), if_pos h]
  · rw [if_neg (show ¬ log.length < Config.logSize from h), if_neg h]
    match log, h with
    | [], h => simp at h
    | [_], h => simp at h
    | _ :: _ :: _, _ => rfl

/-! ### A visit that succeeds (R98, R101 to R103) -/

/-- The map after drift correction by record `r` (R80, R102). -/
def Bay.driftMap (x : Bay) (r : RefRecord) : Table Entry :=
  match x.meas.log.getLast?, x.meas.log.head? with
  | some a, some first => mapProvisional
      (fun p => p.corrected (interp a r (p.seq.getD 0) - first.value) (driftExceeds x.profile a r)) x.map
  | _, _ => x.map

/-- The bay after a successful visit with record `r` (R98, R101). -/
def Bay.visitedAs (x : Bay) (r : RefRecord) (m : Table Entry) : Bay := { x with
  map := m
  meas := { x.meas with
    log := (if x.meas.log.length < 64 then x.meas.log else x.meas.log.take 1 ++ x.meas.log.drop 2) ++ [r]
    failedVisits := 0, offsetCount := 0, elapsed := 0
    dueCount := false, dueTime := false, dueTemp := false }
  thermal := { x.thermal with lastRef := r.temp } }

/-- A PROVISIONAL part corrected, written as one record (R80). -/
theorem corrected_eq (p : OffsetPart) (v : Int) (excess : Bool) : p.corrected v excess = { p with
    status := if (if p.finding = none ∧ excess = true then some Cause.driftExcess else p.finding) = none
      then .good else .suspect
    cause := if p.finding = none ∧ excess = true then some .driftExcess else p.finding
    finding := none, correction := some v } := by
  unfold OffsetPart.corrected
  cases hf : p.finding with
  | some f => simp
  | none => cases excess <;> simp

theorem mapGet_driftMap {x : Bay} {r a first : RefRecord} (hlast : x.meas.log.getLast? = some a)
    (hhead : x.meas.log.head? = some first) (h z : Nat) : mapGet (x.driftMap r) h z = (mapGet x.map h z).revised
      fun p => p.corrected (interp a r (p.seq.getD 0) - first.value) (driftExceeds x.profile a r) := by
  unfold Bay.driftMap
  simp only [hlast, hhead]
  exact mapGet_mapProvisional _ _ _ _

/-- An entry without an offset part stands, and so does every entry while the log is empty (R102). -/
theorem mapGet_driftMap_stays {x : Bay} {h z : Nat} (r : RefRecord)
    (hno : x.meas.log = [] ∨ (mapGet x.map h z).offset = none) : mapGet (x.driftMap r) h z = mapGet x.map h z := by
  rcases hno with hlog | hnone
  · simp only [Bay.driftMap, hlog]
    rfl
  · cases hlog : x.meas.log with
    | nil =>
      simp only [Bay.driftMap, hlog]
      rfl
    | cons first rest =>
      rw [mapGet_driftMap (a := (first :: rest).getLast (List.cons_ne_nil _ _)) (first := first)
        (by rw [hlog, List.getLast?_eq_some_getLast]) (by rw [hlog]; rfl)]
      simp only [Entry.revised, hnone]

section
variable {c : Ctx} {r a : RefRecord}

theorem correctDrift_quiet (h : ¬ c.bay.profile.driftLimit < (r.value - a.value).natAbs) (ref0 : Int) :
    correctDrift a r ref0 c = c.setMap (mapProvisional
      (fun p => p.corrected (interp a r (p.seq.getD 0) - ref0) (driftExceeds c.bay.profile a r)) c.bay.map) :=
  if_neg fun he => h (of_decide_eq_true he)

theorem correctDrift_exceeds (h : c.bay.profile.driftLimit < (r.value - a.value).natAbs) (ref0 : Int) :
    correctDrift a r ref0 c = raise (.driftExcess a.seq a.value r.seq r.value (r.value - a.value)
        (provisionalCount c.bay.map false) (provisionalCount c.bay.map true)) (c.setMap (mapProvisional
      (fun p => p.corrected (interp a r (p.seq.getD 0) - ref0) (driftExceeds c.bay.profile a r)) c.bay.map)) :=
  if_pos (decide_eq_true h)

/-- Short of drift_limit no event is raised (R103). -/
theorem visitSucceeds_quiet (h : ∀ a, c.bay.meas.log.getLast? = some a →
    ¬ c.bay.profile.driftLimit < (r.value - a.value).natAbs) :
    visitSucceeds r c = { c with bay := c.bay.visitedAs r (c.bay.driftMap r) } := by
  unfold visitSucceeds Bay.driftMap
  rw [Bay.visitedAs, ← appendLog_form]
  cases hlast : c.bay.meas.log.getLast? with
  | none =>
    simp only [show c.meas.log.getLast? = none from hlast]
    rfl
  | some a =>
    cases hhead : c.bay.meas.log.head? with
    | none =>
      simp only [show c.meas.log.getLast? = some a from hlast, show c.meas.log.head? = none from hhead]
      rfl
    | some first =>
      simp only [show c.meas.log.getLast? = some a from hlast, show c.meas.log.head? = some first from hhead]
      rw [correctDrift_quiet (by exact h a hlast)]
      rfl

/-- Above drift_limit DRIFT_EXCESS is raised (R103). -/
theorem visitSucceeds_exceeds (hlast : c.bay.meas.log.getLast? = some a)
    (h : c.bay.profile.driftLimit < (r.value - a.value).natAbs) : visitSucceeds r c = { c with
      bay := (c.bay.raising .driftExcess).visitedAs r (c.bay.driftMap r)
      frames := c.frames ++ c.bay.unit.offers c.id (.driftExcess a.seq a.value r.seq r.value (r.value - a.value)
        (provisionalCount c.bay.map false) (provisionalCount c.bay.map true)) } := by
  obtain ⟨first, hhead⟩ : ∃ first, c.bay.meas.log.head? = some first := by
    cases hl : c.bay.meas.log with
    | nil => rw [hl] at hlast; exact absurd hlast (by simp)
    | cons first rest => exact ⟨first, rfl⟩
  unfold visitSucceeds Bay.driftMap
  rw [Bay.visitedAs, ← appendLog_form]
  simp only [hlast, hhead, show c.meas.log.getLast? = some a from hlast, show c.meas.log.head? = some first from hhead]
  rw [correctDrift_exceeds (by exact h), raise_eq]
  rfl
end

/-! ### The end of a visit (R98, R100) -/

/-- A visit's measurement is good: no cause was kept, and no finding applies (R95, R98). -/
def WellMeasured (p : Profile) (wk : Work) (ref head : WindowResult) : Prop :=
  wk.cause = none ∧ ref.spread ≤ p.spreadLimit ∧ head.spread ≤ p.spreadLimit ∧ p.amplitudeFloor ≤ head.amplitude ∧
    -32767 ≤ head.mean - ref.mean ∧ head.mean - ref.mean ≤ 32767

theorem findingOf_isNone (p : Profile) (ref head : WindowResult) : (findingOf p ref head).isNone = true ↔
    ref.spread ≤ p.spreadLimit ∧ head.spread ≤ p.spreadLimit ∧ p.amplitudeFloor ≤ head.amplitude ∧
      -32767 ≤ head.mean - ref.mean ∧ head.mean - ref.mean ≤ 32767 := by
  rw [findingOf_eq]
  by_cases h1 : p.spreadLimit < max ref.spread head.spread
  · rw [if_pos h1]
    simp only [Option.isNone_some, Bool.false_eq_true, false_iff]
    omega
  by_cases h2 : head.amplitude < p.amplitudeFloor
  · rw [if_neg h1, if_pos h2]
    simp only [Option.isNone_some, Bool.false_eq_true, false_iff]
    omega
  by_cases h3 : 32767 < (head.mean - ref.mean).natAbs
  · rw [if_neg h1, if_neg h2, if_pos h3]
    simp only [Option.isNone_some, Bool.false_eq_true, false_iff]
    omega
  · rw [if_neg h1, if_neg h2, if_neg h3]
    simp only [Option.isNone_none, true_iff]
    omega

section
variable {c : Ctx} {y : Sample} {wk : Work} {k : VisitKind} {a b : WindowResult}
  (hw : c.bay.ctrl.switchWait = 0) (hs : c.bay.ctrl.state = .sweep)
  (hsel : c.bay.ctrl.selHead = c.bay.ctrl.loopHead) (hf : c.bay.ctrl.frozen = true)
  (hwatch : c.bay.ctrl.watch = none) (hcls : y.cls = .position) (hwork : c.bay.sweep.work = some wk)
  (hp : wk.phase = .retHead) (hj : wk.job = .visit k) (ha : wk.refResult = some a) (hb : wk.headResult = some b)
include hw hs hsel hf hwatch hcls hwork hp hj ha hb

theorem sampleActs_visit_succeeds (hgood : WellMeasured c.bay.profile wk a b) :
    sampleActs y c = visitEnds k (some ⟨wk.seq.getD 0, b.mean - a.mean, wk.temp⟩) c.returned := by
  obtain ⟨hc, hfine⟩ := hgood
  have hoffset : offsetOf a b = b.mean - a.mean := by
    rw [offsetOf_eq]
    omega
  rw [sampleActs_returns_forming hw hs hsel hf hwatch hcls hwork hp hc ha hb]
  simp only [measurementForms, hj]
  rw [if_pos (show (findingOf c.returned.profile a b).isNone = true from (findingOf_isNone _ _ _).2 hfine), hoffset]

theorem sampleActs_visit_fails (hgood : ¬ WellMeasured c.bay.profile wk a b) :
    sampleActs y c = visitEnds k none c.returned := by
  cases hc : wk.cause with
  | some cause =>
    rw [sampleActs_returns_failing hw hs hsel hf hwatch hcls hwork hp hc]
    simp only [measurementFails, hj]
  | none =>
    rw [sampleActs_returns_forming hw hs hsel hf hwatch hcls hwork hp hc ha hb]
    simp only [measurementForms, hj]
    exact if_neg fun h => hgood ⟨hc, (findingOf_isNone _ _ _).1 h⟩
end

/-- The bay with no work in flight. -/
def Bay.unworked (x : Bay) : Bay := { x with sweep := { x.sweep with work := none } }

theorem Bay.unworked_raising (x : Bay) (k : EventKind) : x.unworked.raising k = (x.raising k).unworked := by
  unfold Bay.raising
  by_cases hd : x.unit.disposition k = .hold ∧ x.sweep.active = true
  · rw [if_pos hd, if_pos (by exact hd)]
    rfl
  · rw [if_neg hd, if_neg (by exact hd)]
    rfl

section
variable {c : Ctx} {r : RefRecord}

/-- The bay at work once a visit has failed (R100). -/
def Ctx.visitFailed (c : Ctx) : Ctx := { c with
  bay := { c.bay.unworked with meas := { c.bay.meas with failedVisits := c.bay.meas.failedVisits + 1 } } }

/-- The third failure in a row ends the sweep (R100). -/
theorem visitEnds_gives_up (k : VisitKind) (h : 3 ≤ c.bay.meas.failedVisits + 1) :
    visitEnds k none c = endSweep .refFailed (countPlanned k c.visitFailed) := by
  cases k <;> exact if_pos h

/-- A planned visit that succeeds, the bay then being HELD (R98, R137, R142). -/
theorem visitEnds_planned_succeeds {d : Ctx} (hd : visitSucceeds r { c with bay := c.bay.unworked } = d)
    (hs : d.bay.sweep.seqNext < 65536) (hh : d.bay.sweep.holds.isEmpty = false) :
    visitEnds .planned (some r) c = { d with
      bay := ({ d.bay with sweep := { d.bay.sweep with
        measured := satInc 65535 d.bay.sweep.measured, lastStep := some .written } } : Bay).heldNow } := by
  subst hd
  have hends : visitEnds .planned (some r) c =
      boundary (countPlanned .planned (visitSucceeds r { c with bay := c.bay.unworked })) := rfl
  rw [hends, boundary_of_held (by exact hs) (by exact hh)]
  rfl

/-! ### A sweep's end leaves its bay without a sweep (R149) -/

/-- The restored head and the state that the sweep's end leads to leave sweep, log and map (R53). -/
theorem endSweep_leaves {o : SweepOutcome} (ho : o ≠ .complete) :
    (endSweep o c).bay.sweep = (c.bay.sweepEnded o).sweep ∧ (endSweep o c).bay.meas = (c.bay.sweepEnded o).meas ∧
      (endSweep o c).bay.map = (c.bay.sweepEnded o).map := by
  have hplace (d : Ctx) : (placeAfterSweep o d).bay.sweep = d.bay.sweep ∧
      (placeAfterSweep o d).bay.meas = d.bay.meas ∧ (placeAfterSweep o d).bay.map = d.bay.map := by
    unfold placeAfterSweep
    simp only
    (repeat' split) <;> exact ⟨rfl, rfl, rfl⟩
  obtain ⟨h1, h2, h3⟩ := hplace (restoreRef (endCore o c))
  rw [endSweep, h1, h2, h3, restoreRef_eq, endCore_eq c ho]
  exact ⟨rfl, rfl, rfl⟩
end

/-- A completion whose bay is left as some work leaves it. -/
theorem sample_ends {s : State} {b : BayIx} {w : Wedge} {d : Ctx} (hbusy : s.demod.busy = some (b, w))
    (hon : (s.bays.get b).ctrl.state ≠ .offline) (hid : d.id = b)
    (h : sampleActs (classify w (s.ctx b)).2 (classify w (s.ctx b)).1 = d) : ∃ t, exec .demodComplete s = .next t ∧
      t.bays.get b = d.bay ∧ ∀ a, a ≠ b → t.bays.get a = s.bays.get a := by
  refine ⟨_, sample_leaves (frames := d.frames) (records := d.records) (notes := d.notes) (x := d.bay) hbusy hon rfl
    (by rw [h, ← hid]), ?_, fun a ha => ?_⟩
  · simp [State.leaves]
  · simp [State.leaves, PerBay.get_set_other _ ha]

/-- Settles O42, by the findings of the measurement, and by the rounding of the line. -/
theorem visitEnds_holds : Obligations.VisitEnds := by
  unfold Obligations.VisitEnds
  refine ⟨?_, ?_⟩
  · intro s b w wk ref head
    obtain ⟨k, u, hh, fr, hc⟩ := classify_form s b w
    rw [hc]
    intro x c free raw good made log excess corrected heldAs hbusy hcls hs hw hsel hf hwatch hwork hp hj ha hb hseq
      hmeas hheld
    have hon : x.ctrl.state ≠ .offline := by rw [hs]; decide
    have hmeas' : satInc 65535 x.sweep.measured = x.sweep.measured + 1 := satInc_of_lt hmeas
    have leaves {z : Bay} {frames : List EventFrame} (hz : sampleActs (classify w (s.ctx b)).2 c = ⟨b, z, frames, [], []⟩) :
        exec .demodComplete s = .next (free.leaves b z frames [.drive z.ctrl.command]) :=
      sample_leaves hbusy hon rfl (by rw [hc]; exact hz)
    refine ⟨fun hgood => ?_, fun hgood hlt => ?_, fun hgood hlim => ?_⟩
    · have hacts := sampleActs_visit_succeeds (c := c) hw hs hsel hf hwatch hcls hwork hp hj ha hb hgood
      refine ⟨c.bay.driftMap made, ?_⟩
      intro meas
      refine ⟨fun hex => ?_, fun a hlast hdrift => ?_, fun h z => ?_⟩
      · refine leaves ?_
        rw [hacts, visitEnds_planned_succeeds (visitSucceeds_quiet (r := made) (c := { c.returned with bay := c.returned.bay.unworked })
          fun a hlast hdrift => hex ⟨a, hlast, hdrift⟩) (by exact hseq) (by exact hheld)]
        simp only [heldAs, ← hmeas']
        rfl
      · refine leaves ?_
        rw [hacts, visitEnds_planned_succeeds (visitSucceeds_exceeds (r := made) (c := { c.returned with bay := c.returned.bay.unworked })
          (by exact hlast) (by exact hdrift)), Bay.unworked_raising]
        · simp only [heldAs, ← hmeas', Bay.visitedAs, Bay.unworked, Bay.raising_measured]
          rfl
        · exact (Bay.raising_seqNext _ _).trans_lt hseq
        · exact Bay.raising_held _ hheld
      · intro e
        split
        · rename_i first a p hhead hlast hpart
          rw [mapGet_driftMap (by exact hlast) (by exact hhead)]
          have he : (mapGet c.bay.map h z).offset = some p := hpart
          simp only [Entry.revised, he, corrected_eq, driftExceeds, decide_eq_true_eq]
          rfl
        · rename_i hno
          refine mapGet_driftMap_stays _ ?_
          by_contra hboth
          obtain ⟨hlog, hpart⟩ := not_or.1 hboth
          obtain ⟨p, hpart⟩ := Option.ne_none_iff_exists'.1 hpart
          exact hno _ _ p (List.head?_eq_some_head hlog) (List.getLast?_eq_some_getLast hlog) hpart
    · refine leaves ((sampleActs_visit_fails (c := c) hw hs hsel hf hwatch hcls hwork hp hj ha hb hgood).trans
        ((visitEnds_planned_fails (by exact hseq) (by exact hheld) (by exact hlt)).trans ?_))
      simp only [heldAs, ← hmeas']
      rfl
    · have hends := (sampleActs_visit_fails (c := c) hw hs hsel hf hwatch hcls hwork hp hj ha hb hgood).trans
        (visitEnds_gives_up .planned hlim)
      obtain ⟨t, ht, hbay, _⟩ := sample_ends hbusy hon
        ((id_of_kept (endSweep_kept _ _)).trans (id_of_kept (countPlanned_kept _ _))) (by rw [hc]; exact hends)
      obtain ⟨h1, h2, h3⟩ := endSweep_leaves (o := .refFailed) (by decide) (c := countPlanned .planned c.returned.visitFailed)
      refine ⟨t, ht, ?_⟩
      rw [hbay, h1, h2, h3]
      exact ⟨rfl, rfl, rfl, rfl, rfl, rfl⟩
  · intro a r n hlt num den
    have hden : ((r.seq - a.seq : Nat) : Int) = den := Int.ofNat_sub hlt.le
    obtain ⟨hnear, htie⟩ := roundHalfAway_near (a := num) (n := r.seq - a.seq) (by omega)
    rw [hden] at hnear htie
    have hline : interp a r n = roundHalfAway num (r.seq - a.seq) := rfl
    rw [hline]
    generalize den * roundHalfAway num (r.seq - a.seq) = line at *
    omega

end Sys2Proof.Machine

namespace Sys2Proof.Machine

/-! SUPPORT. Where the engine goes on after a visit (R100, R104, R138, R143); statement O43. -/

section
variable {c : Ctx} {r : RefRecord} {k : VisitKind}

/-- A successful visit changes the map, the measurements, the temperature of the last reference, and what an event
changes. -/
theorem visitSucceeds_form (r : RefRecord) (c : Ctx) : ∃ m ms th u h fr, visitSucceeds r c = { c with
    bay := { c.bay with
      map := m, meas := ms, thermal := th, unit := u, sweep := { c.bay.sweep with holds := h } }
    frames := fr } := by
  by_cases hex : ∃ a, c.bay.meas.log.getLast? = some a ∧ c.bay.profile.driftLimit < (r.value - a.value).natAbs
  · obtain ⟨a, hlast, hdrift⟩ := hex
    obtain ⟨h, hsweep⟩ := Bay.raising_sweep c.bay .driftExcess
    refine ⟨c.bay.driftMap r, (c.bay.visitedAs r (c.bay.driftMap r)).meas,
      (c.bay.visitedAs r (c.bay.driftMap r)).thermal, c.bay.unit.setFlag .driftExcess, h,
      c.frames ++ c.bay.unit.offers c.id (.driftExcess a.seq a.value r.seq r.value (r.value - a.value)
        (provisionalCount c.bay.map false) (provisionalCount c.bay.map true)), ?_⟩
    rw [visitSucceeds_exceeds hlast hdrift, ← hsweep]
    rfl
  · exact ⟨_, _, _, _, c.bay.sweep.holds, _, visitSucceeds_quiet fun a hlast hdrift => hex ⟨a, hlast, hdrift⟩⟩

/-- The bay at work once a visit has succeeded (R98). -/
def Ctx.visitWon (c : Ctx) (r : RefRecord) : Ctx := visitSucceeds r { c with bay := c.bay.unworked }

/-- A visit that is no planned step, and succeeds (R98, R138). -/
theorem visitEnds_succeeds (hk : k ≠ .planned) : visitEnds k (some r) c = afterVisit k true (c.visitWon r) := by
  cases k
  case planned => exact absurd rfl hk
  all_goals rfl

/-- A visit that is no planned step, and fails below the third failure (R100). -/
theorem visitEnds_fails (hk : k ≠ .planned) (h : c.bay.meas.failedVisits + 1 < 3) :
    visitEnds k none c = afterVisit k false c.visitFailed := by
  cases k
  case planned => exact absurd rfl hk
  all_goals exact if_neg (Nat.not_le.2 h)

theorem afterInline_steps (hs : c.bay.sweep.seqNext < 65536) : afterInline c = boundaryFrom4 c :=
  if_neg (seqUsedUp_of_lt hs)

theorem afterInline_aborts (hs : 65536 ≤ c.bay.sweep.seqNext) : afterInline c = endSweep .aborted c :=
  if_pos (decide_eq_true hs)

/-- With a planned REF step next, step 4 of the boundary begins its visit (R142). -/
theorem boundaryFrom4_refNext {z : Zone} {id : Nat} {rest : List StepRec} (hnext : c.bay.sweep.refNext id rest)
    (hz : zoneGet c.bay.zones c.bay.profile.refZone = some z) (ht : z.track ≤ 524287)
    (hs : c.bay.ctrl.state = .sweep) : boundaryFrom4 c = { c with
      bay := ({ c.bay with sweep := { c.bay.sweep with plan := some (.probe id rest) } } : Bay).visits .planned
        z.track } := by
  obtain ⟨hprobe, step, hr, hplan⟩ := hnext
  exact boundaryFrom4_ref (takeProbe_none hprobe) (choice_current hplan rfl) rfl hr hz ht hs
end

/-- A completion at which the sweep of its bay ends otherwise than COMPLETE (R149). -/
theorem sample_ends_sweep {s : State} {b : BayIx} {w : Wedge} {d : Ctx} {o : SweepOutcome} (ho : o ≠ .complete)
    (hbusy : s.demod.busy = some (b, w)) (hon : (s.bays.get b).ctrl.state ≠ .offline) (hid : d.id = b)
    (h : sampleActs (classify w (s.ctx b)).2 (classify w (s.ctx b)).1 = endSweep o d) :
    ∃ t, exec .demodComplete s = .next t ∧ (t.bays.get b).sweep.active = false ∧
      (t.bays.get b).sweep.work = none ∧ (t.bays.get b).sweep.lastOutcome = some o ∧
      ∀ a, a ≠ b → t.bays.get a = s.bays.get a := by
  obtain ⟨t, ht, hbay, hothers⟩ := sample_ends hbusy hon ((id_of_kept (endSweep_kept _ _)).trans hid) h
  obtain ⟨hsweep, _⟩ := endSweep_leaves ho (c := d)
  refine ⟨t, ht, ?_⟩
  rw [hbay, hsweep]
  exact ⟨rfl, rfl, rfl, hothers⟩

/-- Settles O43, by the kind of the visit and by whether it succeeded. -/
theorem visitsGoOn : Obligations.VisitsGoOn := by
  unfold Obligations.VisitsGoOn
  intro s b w wk kind ref head z id rest
  obtain ⟨k, u, hh, fr, hc⟩ := classify_form s b w
  rw [hc]
  intro x c free raw good ended won lost planned held leaves hbusy hcls hs hw hsel hf hwatch hwork hp hj ha hb hact hz ht
  have hon : x.ctrl.state ≠ .offline := by rw [hs]; decide
  have finish {y : Bay} {frames : List EventFrame} (hcmd : y.ctrl.command = x.ctrl.command)
      (hy : sampleActs (classify w (s.ctx b)).2 c = ⟨b, y, frames, [], []⟩) : leaves y frames := by
    have hleaves := sample_leaves (records := []) hbusy hon rfl (by rw [hc]; exact hy)
    rw [hcmd] at hleaves
    exact hleaves
  have succeeds (hk : kind ≠ .planned) (hgood : good) :
      sampleActs (classify w (s.ctx b)).2 c = afterVisit kind true won :=
    (sampleActs_visit_succeeds (c := c) hw hs hsel hf hwatch hcls hwork hp hj ha hb hgood).trans (visitEnds_succeeds hk)
  have fails (hgood : ¬ good) : sampleActs (classify w (s.ctx b)).2 c = visitEnds kind none c.returned :=
    sampleActs_visit_fails (c := c) hw hs hsel hf hwatch hcls hwork hp hj ha hb hgood
  obtain ⟨m, ms, th, u', hh', fr', hwon⟩ : ∃ m ms th u' h fr', won = { c with
      bay := { ended with map := m, meas := ms, thermal := th, unit := u', sweep := { ended.sweep with holds := h } }
      frames := fr' } := visitSucceeds_form _ _
  clear_value won
  subst hwon
  refine ⟨fun hgood hk hlog hnext => ?_, fun hk hseq hnext => ⟨fun hgood => ?_, fun hgood hlt => ?_⟩,
    fun hgood hk hloop => ?_, fun hgood hlt hseq => ⟨fun hk hheld => ?_, fun hk hfree hlog => ?_,
      fun hk hfree hlog hdue hprobe hplan hstack hany => ?_⟩, fun o ho => ?_⟩
  · subst hk
    exact finish rfl ((succeeds (by decide) hgood).trans (boundaryFrom4_refNext (by exact hnext) hz ht hs))
  · subst hk
    exact finish rfl ((succeeds (by decide) hgood).trans ((afterInline_steps (by exact hseq)).trans
      (boundaryFrom4_refNext (by exact hnext) hz ht hs)))
  · subst hk
    exact finish rfl ((fails hgood).trans ((visitEnds_fails (by decide) (by exact hlt)).trans
      ((afterInline_steps (by exact hseq)).trans (boundaryFrom4_refNext (by exact hnext) hz ht hs))))
  · subst hk
    intro d
    refine finish rfl ((succeeds (by decide) hgood).trans ((endSweep_complete (by exact hloop)
      (by exact hloop.trans hsel.symm)).trans ?_))
    rw [Bay.completed, ← hwatch]
  · have hbounds : sampleActs (classify w (s.ctx b)).2 c = boundary c.returned.visitFailed := by
      rw [fails hgood, visitEnds_fails (by rcases hk with rfl | rfl <;> decide) (by exact hlt)]
      rcases hk with rfl | rfl <;> rfl
    refine finish rfl (hbounds.trans ((boundary_of_held (by exact hseq) (by exact hheld)).trans ?_))
    rw [← hwatch]
    rfl
  · subst hk
    exact finish rfl ((fails hgood).trans ((visitEnds_fails (by decide) (by exact hlt)).trans
      ((boundary_of_free (by exact hseq) (by exact hfree)).trans ((boundaryFrom3_opening (by exact hlog)).trans
        (beginVisit_eq _ .opening hz ht hs)))))
  · subst hk
    have hchoice : c.returned.visitFailed.choice = ⟨none, x.sweep.plan, x.sweep.stack, x.sweep.basePlan⟩ := by
      rw [Ctx.choice, show c.returned.visitFailed.sweep.plan = none from hplan,
        show c.returned.visitFailed.sweep.stack = [] from hstack, hplan, hstack]
      rfl
    exact finish rfl ((fails hgood).trans ((visitEnds_fails (by decide) (by exact hlt)).trans
      ((boundary_of_free (by exact hseq) (by exact hfree)).trans ((boundaryFrom3_steps (by exact hlog) (by exact hdue)).trans
        ((boundaryFrom4_ends (by exact hprobe) hchoice rfl).trans
          ((if_pos (by exact hany)).trans (beginVisit_eq _ .closing hz ht hs)))))))
  · rcases ho with ⟨rfl, hgood, hlim⟩ | ⟨rfl, hk, hseq, hany⟩
    · exact sample_ends_sweep (by decide) hbusy hon (id_of_kept (countPlanned_kept c.returned.visitFailed kind))
        (by rw [hc]; exact (fails hgood).trans (visitEnds_gives_up kind hlim))
    · subst hk
      by_cases hgood : good
      · refine sample_ends_sweep (by decide) hbusy hon ?_
          (by rw [hc]; exact (succeeds (by decide) hgood).trans (afterInline_aborts (by exact hseq)))
        rfl
      · refine sample_ends_sweep (by decide) hbusy hon ?_
          (by
            rw [hc]
            exact (fails hgood).trans ((visitEnds_fails (by decide) (by exact hany.resolve_left hgood)).trans
              (afterInline_aborts (by exact hseq))))
        rfl

end Sys2Proof.Machine

namespace Sys2Proof.Machine

/-! SUPPORT. A servo loss of an active sweep (R39, R147): below the fourth the work is interrupted, the fourth ends
the sweep; the phases that count against settle_timeout (R94, R116, R124); statement O38. -/

section
variable {c : Ctx} {cls : SampleClass}

/-- The bay as a servo loss of its sweep takes it to ACQUIRE (R39). -/
def Bay.lostServo (x : Bay) : Bay := { x.raising .servoLoss with
  acq := ⟨.sweep, 0, 0, 0⟩
  counter := { x.counter with qp := none, resolved := false }
  ctrl := { x.ctrl with
    state := .acquire, command := lossCommand x.profile x.ctrl.command, settle := 0, frozen := false, watch := none } }

theorem servoLost_eq (hs : c.bay.ctrl.state = .sweep ∨ c.bay.ctrl.state = .held) : c.servoLost cls = { c with
    bay := c.bay.lostServo
    frames := c.frames ++ c.bay.unit.offers c.id
      (.servoLoss c.bay.ctrl.selHead c.bay.ctrl.state (lossThreshold c.bay.profile) cls) } := by
  have hintent : lossIntent c.bay.ctrl.state = .sweep := by
    rcases hs with h | h <;> rw [h] <;> rfl
  rw [Ctx.servoLost, hintent]
  rfl

/-- What the event leaves of the sweep. -/
theorem lostServo_sweep (x : Bay) : ∃ h, x.lostServo = { x.lostServo with sweep := { x.sweep with holds := h } } := by
  obtain ⟨h, e⟩ := Bay.raising_sweep x .servoLoss
  refine ⟨h, ?_⟩
  rw [← e]
  rfl

/-- Work as it waits for reacquisition (R147). -/
def Work.waiting (w : Work) : Work := ⟨w.job, .interrupted, w.seq, w.temp, none, none, none, [], none⟩

/-- Below the fourth servo loss the work waits for reacquisition (R147). -/
theorem sweepLoss_interrupts {r : Nat} {wo : Option Work} (ha : c.bay.sweep.active = true)
    (hretry : c.bay.sweep.retry = r) (hwork : c.bay.sweep.work = wo) (hr : r < 3) : sweepLoss c = { c with
      bay := { c.bay with
        meas := { c.bay.meas with window := none }
        pattern := { c.bay.pattern with write := none, capture := none }
        sweep := { c.bay.sweep with retry := r + 1, phaseLimit := 0, work := wo.map Work.waiting } } } := by
  subst hretry
  have hloss : sweepLoss c = interruptWork (c.setSweep { c.bay.sweep with retry := c.bay.sweep.retry + 1 }) :=
    (if_pos ha).trans (if_pos (Nat.succ_lt_succ hr))
  rw [hloss]
  unfold interruptWork
  cases wo <;> simp only [closeWindow, endWrite, closeCapture, Ctx.setMeas, Ctx.setPattern, Ctx.setSweep, hwork] <;> rfl

/-- The fourth ends the sweep (R147). -/
theorem sweepLoss_ends (ha : c.bay.sweep.active = true) (hr : 3 ≤ c.bay.sweep.retry) : sweepLoss c =
    endSweep .lostServo (c.setSweep { c.bay.sweep with retry := c.bay.sweep.retry + 1 }) :=
  (if_pos ha).trans (if_neg (Nat.not_lt.2 (Nat.succ_le_succ hr)))

/-- A sweep that ends LOST_SERVO leaves its bay in ACQUIRE with intent FOLLOW (R53). -/
theorem endSweep_lostServo (hs : c.bay.ctrl.state = .acquire) (hrun : c.bay.acq = ⟨.sweep, 0, 0, 0⟩)
    (hcounter : c.bay.counter = { c.bay.counter with qp := none, resolved := false }) :
    endSweep .lostServo c = { c with
      bay := { c.bay.sweepEnded .lostServo with
        acq := ⟨.follow, 0, 0, 0⟩
        ctrl := c.bay.ctrl.restored c.bay.profile }
      frames := c.frames ++ c.bay.doneFrames c.id .lostServo
      records := c.records ++ headIfChanged c.bay.ctrl.selHead c.bay.profile.refHead } := by
  by_cases hsel : c.bay.ctrl.selHead = c.bay.profile.refHead
  · rw [endSweep, restoreRef_endCore_same c (by decide) hsel, placeAfterSweep_of_acquire (by decide) (by exact hs)]
    simp only [Ctx.setAcq, Bay.sweepEnded, hrun]
  · rw [endSweep, restoreRef_endCore_other c (by decide) hsel, placeAfterSweep_of_acquire (by decide) (by exact hs),
      ← hcounter]
    simp only [Ctx.setAcq, Bay.sweepEnded, hrun]

/-- The bay with the phase-limit count at `n`. -/
def Bay.limitAt (x : Bay) (n : Nat) : Bay := { x with sweep := { x.sweep with phaseLimit := n } }

theorem Bay.limitAt_raising (x : Bay) (n : Nat) (k : EventKind) :
    (x.limitAt n).raising k = (x.raising k).limitAt n := by
  unfold Bay.raising
  by_cases hd : x.unit.disposition k = .hold ∧ x.sweep.active = true
  · rw [if_pos hd, if_pos (by exact hd)]
    rfl
  · rw [if_neg hd, if_neg (by exact hd)]
    rfl

theorem Bay.limitAt_lostServo (x : Bay) (n : Nat) : (x.limitAt n).lostServo = x.lostServo.limitAt n := by
  rw [Bay.lostServo, Bay.limitAt_raising]
  rfl

variable {y : Sample} {wk : Work} {n : LoopNews}

/-- The row of a phase that counts against settle_timeout (R94, R116, R124). -/
def Phase.limitNote (p : Phase) : Note := if p = .retHead then .returnLimit else .loopSwitchLimit

/-- RETURN and LOOP_SWITCH count a sample that does not end them (R94, R116, R124). -/
theorem engineSample_limits (hwork : c.bay.sweep.work = some wk)
    (hp : wk.phase ∈ [.retHead, .loopSwitchOut, .loopSwitchBack]) (hcls : y.cls ≠ .position) (hn : n.seeded = false) :
    engineSample y n c = limitSample wk.phase.limitNote y c := by
  simp only [List.mem_cons, List.not_mem_nil, or_false] at hp
  unfold engineSample Phase.limitNote
  rw [show c.sweep.work = some wk from hwork]
  rcases hp with h | h | h <;> simp [h, hcls, hn]

/-- At settle_timeout it is a servo loss. -/
theorem limitSample_lost {note : Note} (h : c.bay.profile.settleTimeout ≤ c.bay.sweep.phaseLimit + 1) :
    limitSample note y c =
      (servoLoss y.cls { c with bay := c.bay.limitAt (c.bay.sweep.phaseLimit + 1) }).note note := if_pos h

theorem limitSample_counts {note : Note} (h : c.bay.sweep.phaseLimit + 1 < c.bay.profile.settleTimeout) :
    limitSample note y c = { c with bay := c.bay.limitAt (c.bay.sweep.phaseLimit + 1) } := if_neg (Nat.not_le.2 h)
end

/-- Settles O38, by the row, and by the servo losses of the sweep so far. -/
theorem servoLossInSweep : Obligations.ServoLossInSweep := by
  unfold Obligations.ServoLossInSweep
  intro s b i wh x raised free command limited lost frames hrow hbusy hw hsel hact
  let y : Sample := ⟨.noSync, wh, false, none, none, none⟩
  have hclass := classify_noSync s b wh
  have hstate : x.ctrl.state = .sweep ∨ x.ctrl.state = .held := by
    rcases hrow with ⟨_, h, _⟩ | ⟨w, ⟨h, _⟩, _⟩ | ⟨w, ⟨h, _⟩, _⟩
    · exact h
    · exact .inl h
    · exact .inl h
  have hon : x.ctrl.state ≠ .offline := by rcases hstate with h | h <;> rw [h] <;> decide
  obtain ⟨note, p, hrun, hacts⟩ : ∃ (note : Note) (p : Nat), exec i s = .next (completeFor note b s) ∧
      sampleActs y (s.ctx b) = (sweepLoss ⟨b, lost.limitAt p, frames, [], []⟩).note note := by
    rcases hrow with ⟨rfl, _, hl⟩ | hlimit
    · refine ⟨.servoLoss, x.sweep.phaseLimit, rfl, ?_⟩
      rw [sampleActs_following (c := s.ctx b) hw (.inr hstate), followSample_lost (c := s.ctx b) hsel (.inl rfl) hl,
        servoLoss_eq, servoLost_eq (by exact hstate), ← show x.lostServo = lost from rfl, ← Bay.limitAt_lostServo]
      rfl
    · obtain ⟨w, ⟨hs, hwork, hwatch, hl, hlim⟩, hi, hp⟩ : ∃ w, limited w ∧
          exec i s = .next (completeFor w.phase.limitNote b s) ∧
          w.phase ∈ [.retHead, .loopSwitchOut, .loopSwitchBack] := by
        rcases hlimit with ⟨w, h, rfl, hp⟩ | ⟨w, h, rfl, hp | hp⟩ <;> exact ⟨w, h, by rw [hp]; rfl, by simp [hp]⟩
      have hheard : (s.ctx b).hears y = { s.ctx b with
          bay := { x with acq := { x.acq with loss := x.acq.loss + 1 }, ctrl := { x.ctrl with settle := 0 } } } := by
        rw [Ctx.hears, Bay.heard_unusable (x := (s.ctx b).bay) (y := y) (by exact hsel) (.inl rfl)]
        rfl
      refine ⟨_, x.sweep.phaseLimit + 1, hi, ?_⟩
      rw [sampleActs_sweep (c := s.ctx b) hw hs hwatch fun _ _ => hl, hheard,
        engineSample_limits (wk := w) (by exact hwork) hp SampleClass.noConfusion
          (congrArg Prod.fst (loopReceives_holds (.inl SampleClass.noConfusion))),
        limitSample_lost (by exact hlim), servoLoss_eq, servoLost_eq (.inl hs), Bay.limitAt_lostServo]
      rfl
  have leaves {z : Bay} {fr : List EventFrame} {records : List OutRecord}
      (hz : sweepLoss ⟨b, lost.limitAt p, frames, [], []⟩ = ⟨b, z, fr, records, []⟩) :
      exec i s = .next (free.leaves b z fr (records ++ [.drive z.ctrl.command])) := by
    rw [hz] at hacts
    exact hrun.trans (row_leaves hbusy hon (by rw [hclass]) (by rw [hclass]; exact hacts) (List.mem_singleton_self _))
  obtain ⟨h, hsweep⟩ := lostServo_sweep x
  have hsweep' : lost.sweep = { x.sweep with holds := h } := congrArg Bay.sweep hsweep
  have hactive : lost.sweep.active = true := by rw [hsweep']; exact hact
  have hretry : lost.sweep.retry = x.sweep.retry := by rw [hsweep']
  have hwork : lost.sweep.work = x.sweep.work := by rw [hsweep']
  refine ⟨fun hr => ?_, fun hr => ?_⟩
  · refine leaves (records := []) ((sweepLoss_interrupts hactive hretry hwork hr).trans ?_)
    rfl
  · intro y'
    have hlost : lost = { lost with sweep := { x.sweep with holds := h } } := hsweep
    refine leaves (records := headIfChanged x.ctrl.selHead x.profile.refHead) ?_
    rw [hlost]
    refine (sweepLoss_ends (by exact hact) (by exact hr)).trans ((endSweep_lostServo rfl rfl rfl).trans ?_)
    rfl

end Sys2Proof.Machine

namespace Sys2Proof.Machine

/-! SUPPORT. Timeouts of a JOG step on a FOREIGN sample (R109, R110, R118 to R120), and how its failure or its scan
ends on ref_head (R124); statements O39 and O41. -/

section
variable {c : Ctx} {y : Sample} {wk : Work} {i n : Nat}

/-- The bay once a sample of no use to the loop has been counted, the watch disarmed (R38, R61). -/
def Bay.missed (x : Bay) : Bay := { x with
  acq := { x.acq with loss := x.acq.loss + 1 }, ctrl := { x.ctrl with settle := 0, watch := none } }

theorem hears_missed (hsel : c.bay.ctrl.selHead = c.bay.ctrl.loopHead) (hcls : y.cls = .foreign) :
    (c.hears y).watching none = { c with bay := c.bay.missed } := by
  rw [Ctx.hears, Bay.heard_unusable hsel (.inr hcls)]
  rfl

section
variable (hw : c.bay.ctrl.switchWait = 0) (hs : c.bay.ctrl.state = .sweep)
  (hsel : c.bay.ctrl.selHead = c.bay.ctrl.loopHead) (hl : c.bay.acq.loss + 1 < lossThreshold c.bay.profile)
  (hcls : y.cls = .foreign)
include hw hs hsel hl hcls

/-- With the watch disarmed a FOREIGN sample goes on to the work in flight. -/
theorem sampleActs_foreign (hwatch : c.bay.ctrl.watch = none) :
    ∃ news, sampleActs y c = engineSample y news { c with bay := c.bay.missed } := by
  refine ⟨_, (sampleActs_sweep hw hs hwatch fun _ _ => hl).trans (congrArg (engineSample y _) ?_)⟩
  rw [← hears_missed hsel hcls, Ctx.watching, Ctx.hears, Bay.heard_unusable hsel (.inr hcls), ← hwatch]
  rfl

variable (hwork : c.bay.sweep.work = some wk)
include hwork

/-- The eighth revolution mark of an outstanding write fails the JOG step (R109, R118). -/
theorem sampleActs_writeTimesOut (hwatch : c.bay.ctrl.watch = none) (hp : wk.phase = .writePass)
    (hmark : y.mark = true) (hwrite : c.bay.pattern.write = some n) (hn : 8 ≤ n + 1) : sampleActs y c =
      jogFails wk .writeTimeout { c with
        bay := { c.bay.missed with pattern := { c.bay.pattern with write := none } }
        notes := c.notes ++ [.writeTimeout] } := by
  obtain ⟨news, hacts⟩ := sampleActs_foreign hw hs hsel hl hcls hwatch
  rw [hacts]
  unfold engineSample
  rw [show ({ c with bay := c.bay.missed } : Ctx).sweep.work = some wk from hwork]
  simp only [hp, writeMark, hmark, show ({ c with bay := c.bay.missed } : Ctx).pattern.write = some n from hwrite]
  exact if_pos hn

/-- The fourth revolution mark of an open capture ends it (R110). -/
theorem sampleActs_captureTimesOut {cap : Capture} (hwatch : c.bay.ctrl.watch = none) (hp : wk.phase = .read i)
    (hmark : y.mark = true) (hcap : c.bay.pattern.capture = some cap) (hn : 4 ≤ cap.revs + 1) : sampleActs y c =
      readEnds wk i { c with
        bay := { c.bay.missed with
          pattern := { c.bay.pattern with capture := some { cap with revs := cap.revs + 1 } } }
        notes := c.notes ++ [.captureTimeout] } := by
  obtain ⟨news, hacts⟩ := sampleActs_foreign hw hs hsel hl hcls hwatch
  rw [hacts]
  unfold engineSample
  rw [show ({ c with bay := c.bay.missed } : Ctx).sweep.work = some wk from hwork]
  simp only [hp, captureMark, hmark, show ({ c with bay := c.bay.missed } : Ctx).pattern.capture = some cap from hcap]
  exact if_pos hn

/-- A settle timeout at a position fails the JOG step (R63, R119). -/
theorem sampleActs_scanTimesOut {h z : Nat} (hp : wk.phase = .settleAt i) (hj : wk.job = .jog h z)
    (hset : 0 < c.bay.profile.settleCount) (hwatch : c.bay.ctrl.watch = some n)
    (hn : c.bay.profile.settleTimeout ≤ n + 1) : sampleActs y c =
      jogFails wk .settleTimeout { c with bay := c.bay.missed, notes := c.notes ++ [.settleTimeout] } := by
  have hsettle : (c.bay.heard y).ctrl.settle < c.bay.profile.settleCount := by
    rw [Bay.heard_unusable hsel (.inr hcls)]
    exact hset
  rw [sampleActs_timedOut hw hs hwatch (fun _ _ => hl) hsettle hn, hears_missed hsel hcls,
    engineSample_timesOut (wk := wk) (i := i) (by exact hwork) (by simp [hp])]
  simp only [settleTimesOut, hj]
  rfl
end

/-- The bay as the return LOOP_SWITCH names the zone centre and closes what was open (R124). -/
def Bay.returning (x : Bay) (centre : Int) : Bay := { x with
  ctrl := { x.ctrl with targetFinal := some (clampTarget centre), settle := 0 }
  pattern := { x.pattern with write := none, capture := none }
  sweep := { x.sweep with phaseLimit := 0 } }

theorem Bay.returning_raising (x : Bay) (centre : Int) (k : EventKind) :
    (x.returning centre).raising k = (x.raising k).returning centre := by
  unfold Bay.raising
  by_cases hd : x.unit.disposition k = .hold ∧ x.sweep.active = true
  · rw [if_pos hd, if_pos (by exact hd)]
    rfl
  · rw [if_neg hd, if_neg (by exact hd)]
    rfl

/-- A jog part written to its entry (R77). -/
theorem Bay.wrote_jog {x : Bay} {m : Nat} (h z : Nat) (part : JogPart) (hm : x.sweep.measured = m) :
    x.wrote h z (.jog part) = { x with
      map := mapPut x.map h z { mapGet x.map h z with jog := some part }
      sweep := { x.sweep with work := none, measured := satInc 65535 m, lastStep := some .written } } := by
  subst hm
  rfl

/-- On ref_head, the loop seeded, the return LOOP_SWITCH is over at once (R124). -/
theorem beginReturnSwitch_here {part : JogPart} {h z : Nat} {now : Int} (hr : c.bay.profile.refHead = c.bay.ctrl.loopHead)
    (hn : c.bay.ctrl.targetNow = some now) (hj : wk.job = .jog h z) : beginReturnSwitch wk part c =
      stepEnds h z (.jog part) { c with bay := c.bay.returning (jobZone wk.job c).centre } := by
  have hseeded : c.bay.ctrl.targetNow.isSome = true := by rw [hn]; rfl
  unfold beginReturnSwitch
  simp only
  refine (if_pos ⟨hr, hseeded⟩).trans ?_
  simp only [hj]
  rfl

/-- A FAILED jog part raises STEP_FAILED with its cause (R82). -/
theorem jog_failure {part : JogPart} {cause : Cause} (hf : part.status = .failed) (hc : part.cause = some cause) :
    (StepResult.jog part).failure = some (.jog, cause, part.seq.getD 0) := by
  simp only [StepResult.failure, hf, if_true, hc, Option.getD_some]

theorem jog_no_failure {part : JogPart} (hf : part.status ≠ .failed) : (StepResult.jog part).failure = none := if_neg hf

/-- A failed JOG step of another head begins its return LOOP_SWITCH (R124). -/
theorem jogFails_other {cause : Cause} (hs : c.bay.ctrl.selHead = c.bay.ctrl.loopHead)
    (hr : c.bay.profile.refHead ≠ c.bay.ctrl.loopHead) : jogFails wk cause c = { c with
      bay := ({ c.bay with
        ctrl := { c.bay.ctrl with targetFinal := some (clampTarget (jobZone wk.job c).centre) }
        pattern := { c.bay.pattern with write := none, capture := none }
        sweep := { c.bay.sweep with
          phaseLimit := 0
          work := some { wk with
            phase := .loopSwitchBack, results := []
            formed := some (failedJog cause c.bay.sweep.number wk.seq wk.temp) } } } : Bay).onHead
            c.bay.profile.refHead
      records := c.records ++ [.head c.bay.profile.refHead] } := beginReturnSwitch_other hs hr

/-- On ref_head its FAILED part is written, the bay then being HELD (R82, R124, R137). -/
theorem jogFails_here {cause : Cause} {h z : Nat} {now : Int} (hr : c.bay.profile.refHead = c.bay.ctrl.loopHead)
    (hn : c.bay.ctrl.targetNow = some now) (hj : wk.job = .jog h z)
    (ha : (mapGet c.bay.map h z).accepted = false) (hs : c.bay.sweep.seqNext < 65536)
    (hh : c.bay.sweep.holds.isEmpty = false) : jogFails wk cause c = { c with
      bay := (((c.bay.raising .stepFailed).returning (jobZone wk.job c).centre).wrote h z
        (.jog (failedJog cause c.bay.sweep.number wk.seq wk.temp))).heldNow
      frames := c.frames ++ c.bay.unit.offers c.id (.stepFailed h z .jog cause (wk.seq.getD 0)) } := by
  have hswitch : jogFails wk cause c = stepEnds h z (.jog (failedJog cause c.bay.sweep.number wk.seq wk.temp))
      { c with bay := c.bay.returning (jobZone wk.job c).centre } :=
    beginReturnSwitch_here (wk := { wk with results := [] }) hr hn hj
  rw [hswitch, stepEnds_fails (c := { c with bay := c.bay.returning (jobZone wk.job c).centre }) hs hh ha
    (jog_failure rfl rfl), Bay.returning_raising]
  rfl

/-- The bay at work with one more block received (R110). -/
def Ctx.tookBlock (c : Ctx) (cap : Capture) : Ctx :=
  c.setPattern { c.bay.pattern with capture := some { cap with received := cap.received + 1 } }

/-- The last capture of a scan on ref_head ends its step (R120, R124). -/
theorem readEnds_here {h z : Nat} {now : Int} (hk : (jobZone wk.job c).positions ≤ i + 1)
    (hr : c.bay.profile.refHead = c.bay.ctrl.loopHead) (hn : c.bay.ctrl.targetNow = some now)
    (hj : wk.job = .jog h z) : readEnds wk i c = stepEnds h z
      (.jog (evaluateScan c.bay.profile (jobZone wk.job c)
        (wk.results ++ [c.bay.pattern.result c.bay.pattern.received]) c.bay.sweep.number wk.seq wk.temp))
      { c with bay := c.bay.returning (jobZone wk.job c).centre } := by
  unfold readEnds
  simp only
  rw [if_neg (by omega)]
  exact beginReturnSwitch_here (c := closeCapture c)
    (wk := { wk with results := wk.results ++ [c.bay.pattern.result c.bay.pattern.received] }) hr hn hj
end

/-- Settles O39, by the phase that times out. -/
theorem jogTimeouts : Obligations.JogTimeouts := by
  unfold Obligations.JogTimeouts
  intro s b wh y w x free z failed hbusy hhead hs hw hsel hl hwork
  have hon : x.ctrl.state ≠ .offline := by rw [hs]; decide
  have hclass : classify ⟨wh, some y⟩ (s.ctx b) = (s.ctx b, ⟨.foreign, wh, y.index == 0, none, none, none⟩) :=
    classify_of_foreign _ _ rfl hhead
  have leaves {note : Note} {d : Bay} {records : List OutRecord}
      (h : sampleActs ⟨.foreign, wh, y.index == 0, none, none, none⟩ (s.ctx b) = ⟨b, d, [], records, [note]⟩) :
      (Host.Outcome.next (completeFor note b s) : Host.Outcome State Fault Refusal) =
        .next (free.leaves b d [] (records ++ [.drive d.ctrl.command])) :=
    row_leaves hbusy hon (by rw [hclass]) (by rw [hclass]; exact h) (List.mem_singleton_self _)
  refine ⟨fun h zn n hj hr hindex hwatch hp hwrite hn => ?_, fun k cap hindex hwatch hp hcap hn hk => ?_,
    fun h zn n k hj hr hp hf hset hwatch hn => ?_⟩
  · refine leaves (records := [.head x.profile.refHead]) ?_
    rw [sampleActs_writeTimesOut (c := s.ctx b) hw hs hsel hl rfl hwork hwatch hp (beq_iff_eq.2 hindex) hwrite hn,
      jogFails_other (by exact hsel) (by exact hr)]
    rfl
  · refine leaves (records := []) ?_
    rw [sampleActs_captureTimesOut (c := s.ctx b) hw hs hsel hl rfl hwork hwatch hp (beq_iff_eq.2 hindex) hcap hn,
      readEnds_moves (by exact hk)]
    rfl
  · refine leaves (records := [.head x.profile.refHead]) ?_
    rw [sampleActs_scanTimesOut (c := s.ctx b) hw hs hsel hl rfl hwork hp hj hset hwatch hn,
      jogFails_other (by exact hsel) (by exact hr)]
    rfl

/-- Settles O41, by the timeout, and by the part that the scan gives. -/
theorem jogOfRefHeadEnds : Obligations.JogOfRefHeadEnds := by
  unfold Obligations.JogOfRefHeadEnds
  intro s b wk h z i now x free zr e ended hs hsel hr hnow hwork hj ha hseq
  have hon : x.ctrl.state ≠ .offline := by rw [hs]; decide
  refine ⟨fun wh n y row cause hbusy hhead hw hl hheld hrow => ?_, ?_⟩
  · have hclass : classify ⟨wh, some y⟩ (s.ctx b) = (s.ctx b, ⟨.foreign, wh, y.index == 0, none, none, none⟩) :=
      classify_of_foreign _ _ rfl hhead
    obtain ⟨note, p, hp, hrun, hacts⟩ : ∃ note p, (p = x.pattern ∨ p = { x.pattern with write := none }) ∧ exec row s = .next (completeFor note b s) ∧
        sampleActs ⟨.foreign, wh, y.index == 0, none, none, none⟩ (s.ctx b) = jogFails wk cause
          ⟨b, { x.missed with pattern := p }, [], [], [note]⟩ := by
      rcases hrow with ⟨rfl, rfl, hindex, hwatch, hph, hwrite, hn⟩ | ⟨rfl, rfl, hph, hf, hset, hwatch, hn⟩
      · exact ⟨.writeTimeout, _, .inr rfl, rfl, sampleActs_writeTimesOut (c := s.ctx b) hw hs hsel hl rfl hwork hwatch hph
          (beq_iff_eq.2 hindex) hwrite hn⟩
      · exact ⟨.settleTimeout, x.pattern, .inl rfl, rfl, sampleActs_scanTimesOut (c := s.ctx b) hw hs hsel hl rfl hwork hph hj
          hset hwatch hn⟩
    refine hrun.trans (row_leaves (records := []) (notes := [note]) hbusy hon (by rw [hclass]) ?_
      (List.mem_singleton_self _))
    rw [hclass]
    refine hacts.trans ((jogFails_here (by exact hr) (by exact hnow) hj (by exact ha) (by exact hseq) (by exact hheld)).trans ?_)
    rw [Bay.wrote_jog (m := x.sweep.measured) _ _ _ (by exact Bay.raising_measured _ _)]
    rcases hp with rfl | rfl <;> rfl
  · intro bits cap fed results part h1 h2 hcap hph hlast hpos hheld
    obtain ⟨p, u, hh, fr, hfed, _, _, _, _, hc⟩ := fedTo_feedBits bits (s.ctx b)
    have hfed' : fed = _ := hfed
    have hreads : takeReadback bits (s.ctx b) = readEnds wk i (fed.tookBlock cap) :=
      (takeReadback_open hcap).trans (endIfComplete_ends rfl (by
        rw [Ctx.blockTaken, show feedBits bits (s.ctx b) = fed from rfl, hfed']
        exact hwork) hph hlast.le)
    clear_value fed
    have hends : takeReadback bits (s.ctx b) = stepEnds h z (.jog part) { fed.tookBlock cap with
        bay := (fed.tookBlock cap).bay.returning zr.centre } := by
      subst hfed'
      rw [hreads, readEnds_here (by exact hpos) (by exact hr) (by exact hnow) hj]
      rfl
    subst hfed'
    rw [readback_reaches hon h1 h2]
    refine ⟨fun hf => ?_, fun cause hf hcause => ?_⟩
    · refine next_leaves (notes := []) (hends.trans ((stepEnds_writes (by exact hseq) (by exact hheld) (by exact ha)
        (jog_no_failure hf)).trans ?_))
      rfl
    · obtain ⟨_, _, hstamp, _⟩ := evaluateScan_stamps (p := x.profile) (z := zr) (results := results)
        (sweep := x.sweep.number) (seq := wk.seq) (temp := wk.temp)
      have hfailure : (StepResult.jog part).failure = some (.jog, cause, wk.seq.getD 0) := by
        rw [jog_failure hf hcause, show part.seq = wk.seq from hstamp]
      refine next_leaves (notes := []) (hends.trans ((stepEnds_fails (by exact hseq) (by exact hheld) (by exact ha)
        hfailure).trans ?_))
      rw [Bay.returning_raising, Bay.wrote_jog (m := x.sweep.measured) _ _ _ (by exact Bay.raising_measured _ _)]
      rfl

end Sys2Proof.Machine

namespace Sys2Proof.Machine

/-! SUPPORT. LOOP_SWITCH, outbound and back (R116, R124, R147); statement O40. -/

section
variable {c : Ctx} {y : Sample} {wk : Work} {n : LoopNews} {pos : Int}

/-- The bay once its loop is seeded at `pos` (R38, R56). -/
def Bay.seededAt (x : Bay) (pos : Int) : Bay := { x with
  acq := { x.acq with loss := 0 }, ctrl := { x.ctrl with targetNow := some pos, settle := 0 } }

/-- In SWEEP a sample that seeds the loop goes on to the work in flight (R56, R58). -/
theorem sampleActs_seeds (hw : c.bay.ctrl.switchWait = 0) (hs : c.bay.ctrl.state = .sweep)
    (hsel : c.bay.ctrl.selHead = c.bay.ctrl.loopHead) (hwatch : c.bay.ctrl.watch = none) (hcls : y.cls = .position)
    (hpos : y.position = some pos) (hhead : y.head = c.bay.ctrl.loopHead) (hf : c.bay.ctrl.frozen = false)
    (hn : c.bay.ctrl.targetNow = none) :
    sampleActs y c = engineSample y ⟨true, false, false, false⟩ { c with bay := c.bay.seededAt pos } := by
  rw [sampleActs_sweep hw hs hwatch fun _ h => absurd h (usable_of_position hcls),
    loopReceives_seeds hf hcls hhead hpos hn, Ctx.hears, Bay.heard_usable hsel (usable_of_position hcls),
    heard_seeded hf hcls hhead hpos hn]
  rfl

/-- The outbound LOOP_SWITCH ends on it with SEEK (R116). -/
theorem engineSample_switchedOut (hwork : c.bay.sweep.work = some wk) (hp : wk.phase = .loopSwitchOut)
    (hn : n.seeded = true) : engineSample y n c = beginSeek wk c := by
  unfold engineSample
  simp only [show c.sweep.work = some wk from hwork, hp, hn, if_true]

/-- The return LOOP_SWITCH ends on it with the part it carries (R124). -/
theorem engineSample_switchedBack {h z : Nat} {part : JogPart} (hwork : c.bay.sweep.work = some wk)
    (hp : wk.phase = .loopSwitchBack) (hn : n.seeded = true) (hj : wk.job = .jog h z) (hpart : wk.formed = some part) :
    engineSample y n c = stepEnds h z (.jog part) c := by
  unfold engineSample
  simp only [show c.sweep.work = some wk from hwork, hp, hn, if_true, returnSwitchEnds, hj, hpart]

theorem beginWork_jog {h z : Nat} (hj : wk.job = .jog h z) : beginWork wk c = beginLoopSwitch wk c := by
  simp only [beginWork, hj]
end

/-- Settles O40, by the state and by what the sample does to the loop. -/
theorem loopSwitchesRun : Obligations.LoopSwitchesRun := by
  unfold Obligations.LoopSwitchesRun
  intro s b w y wk
  obtain ⟨k, u, hh, fr, hc⟩ := classify_form s b w
  rw [hc]
  intro x c free track up leaves hbusy hy hw hsel hwork
  have finish {d : Bay} {frames : List EventFrame} {records : List OutRecord} (hon : x.ctrl.state ≠ .offline)
      (hcmd : d.ctrl.command = x.ctrl.command) (hd : sampleActs y c = ⟨b, d, frames, records, []⟩) :
      leaves d frames records := by
    have hleaves := sample_leaves hbusy hon hy (by rw [hc]; exact hd)
    rw [hcmd] at hleaves
    exact hleaves
  refine ⟨fun pos h z hcls hpos hs hi hrun hj => ?_, fun hs hwatch => ⟨fun pos hcls hpos hhead hf hn => ?_,
    fun hcls hp hl hlim => ?_⟩⟩
  · intro d d' frames
    have hon : x.ctrl.state ≠ .offline := by rw [hs]; decide
    have hdone : x.profile.acqCount ≤ runAfter y.cls x.acq.run := by
      rw [hcls]
      show x.profile.acqCount ≤ satInc 255 x.acq.run
      unfold satInc
      split <;> omega
    have hacquired : ((c.setAcq { x.acq with run := runAfter y.cls x.acq.run }).acquired pos) = ⟨b, d, frames, [], []⟩ := by
      rw [Ctx.acquired, show (c.setAcq { x.acq with run := runAfter y.cls x.acq.run }).bay.acq.intent = .sweep from hi]
      rfl
    have hacts : sampleActs y c = beginLoopSwitch wk ⟨b, d, frames, [], []⟩ := by
      rw [sampleActs_acquire (c := c) hw hs, acquireSample_completes (c := c) hcls hpos hdone,
        acquisitionCompletes_sweep (by exact hi)]
      rw [show (c.setAcq { c.bay.acq with run := runAfter y.cls c.bay.acq.run }).acquired pos = ⟨b, d, frames, [], []⟩
        from hacquired, engineResumes_work (w := wk) (by exact (Bay.raising_work _ _).trans hwork), beginWork_jog hj]
    refine ⟨fun hh => ?_, fun hh => ?_⟩
    · refine finish hon rfl (hacts.trans ((beginLoopSwitch_seeks (by rw [hj]; exact hh) (by exact Option.some_ne_none pos)).trans ?_))
      rfl
    · refine finish hon rfl (hacts.trans ((beginLoopSwitch_switches (by rw [hj]; exact hh) (by exact hsel)).trans ?_))
      rw [hj]
      rfl
  · intro seeded
    have hon : x.ctrl.state ≠ .offline := by rw [hs]; decide
    have hacts := sampleActs_seeds (c := c) hw hs hsel hwatch hcls hpos hhead hf hn
    refine ⟨fun hp => ?_, fun h z part hp hj hpart hseq hheld => ?_⟩
    · exact finish hon rfl (hacts.trans (engineSample_switchedOut (by exact hwork) hp rfl))
    · intro e written
      have hends := hacts.trans (engineSample_switchedBack (by exact hwork) hp rfl hj hpart)
      refine ⟨fun ha hfine => ?_, fun cause ha hfailed hcause => ?_, fun ha => ?_⟩
      · refine finish hon rfl (hends.trans ((stepEnds_writes (by exact hseq) (by exact hheld) (by exact ha)
          (jog_no_failure hfine)).trans ?_))
        rw [Bay.heldNow_eq (by exact hwatch)]
        rfl
      · refine finish hon rfl (hends.trans ((stepEnds_fails (by exact hseq) (by exact hheld) (by exact ha)
          (jog_failure hfailed hcause)).trans ?_))
        rw [Bay.heldNow_eq (by exact hwatch), Bay.wrote_jog (m := x.sweep.measured) _ _ _ (by exact Bay.raising_measured _ _)]
        rfl
      · refine finish hon rfl (hends.trans ((stepEnds_discards (by exact hseq) (by exact hheld) (by exact ha)).trans ?_))
        rw [Bay.heldNow_eq (by exact hwatch)]
        rfl
  · have hon : x.ctrl.state ≠ .offline := by rw [hs]; decide
    have hcmd : (c.bay.heard y).ctrl.command = x.ctrl.command := by
      rw [Bay.heard, heard_held (.inr (.inl hcls))]
    refine finish hon hcmd ?_
    rw [sampleActs_sweep (c := c) hw hs hwatch fun _ => hl,
      engineSample_limits (wk := wk) (by exact hwork) hp hcls (congrArg Prod.fst (loopReceives_holds (.inl hcls))),
      limitSample_counts (by exact hlim)]
    rfl

end Sys2Proof.Machine
